-- ==== Sys2Proof/Word.lean ====
section
/-! DEFINITION. The plain value types of the model: bytes, notice sets, the fixed-size table `Bank`, the index types of
zones, doors, lanes and classes, and the rounding and clamping arithmetic of section 0.7 (00_scope.md). -/

namespace Sys2Proof

/-- One byte on a party line or on the door loop. -/
abbrev Byte := BitVec 8

/-- A set of the 16 notice kinds; bit n-1 stands for kind n (R188). -/
abbrev NoticeSet := BitVec 16

/-- Zones Z1 … Z8; zone Zn is index n-1. -/
abbrev ZoneId := Fin 8

/-- Doors D01 … D24 and, by R122, the loop stations 1 … 24; door Dk is index k-1. -/
abbrev DoorId := Fin 24

/-- Lanes L01 … L32; lane Ln is index n-1. -/
abbrev LaneId := Fin 32

/-- Product classes 0 … 15. -/
abbrev ClassId := Fin 16

/-- A fixed number of like things (a register file, one record per zone or door). -/
structure Bank (α : Type) (n : Nat) where
  cells : Vector α n
  deriving DecidableEq, Repr

def Bank.get {α : Type} {n : Nat} (b : Bank α n) (i : Fin n) : α := b.cells.get i

def Bank.put {α : Type} {n : Nat} (b : Bank α n) (i : Fin n) (x : α) : Bank α n := ⟨b.cells.set i.val x i.isLt⟩

def Bank.fill {α : Type} {n : Nat} (x : α) : Bank α n := ⟨Vector.replicate n x⟩

def Bank.ofFn {α : Type} {n : Nat} (f : Fin n → α) : Bank α n := ⟨Vector.ofFn f⟩

/-- Apply a function to every place. -/
def Bank.map {α β : Type} {n : Nat} (f : α → β) (b : Bank α n) : Bank β n := Bank.ofFn fun i => f (b.get i)

/-- Rounded to nearest, halves away from zero (section 0.7). -/
def roundNearest (a : Int) (b : Nat) : Int :=
  if 0 ≤ a then ((2 * a.toNat + b) / (2 * b) : Nat) else -(((2 * (-a).toNat + b) / (2 * b) : Nat) : Int)

/-- A quotient rounded up. -/
def ceilDiv (a b : Nat) : Nat := (a + b - 1) / b

def clampInt (lo hi x : Int) : Int := if x < lo then lo else if hi < x then hi else x

def clampNat (lo hi x : Nat) : Nat := if x < lo then lo else if hi < x then hi else x

end Sys2Proof
end

