-- ==== Sys2Proof/Config.lean ====
section
/-! DEFINITION. What the part fixes: the constants of the manual that are no profile entry. No value of the manual is left
open in a way that needs a free value: where an event outside the part decides (a conversion code, a station's reply, what a
store entry reads back as, what a cut-off write leaves), the command that stands for the event carries it (notes/assumptions/5.md). -/

namespace Sys2Proof.Config

/-- Pallet records (R44). -/
def maxPallets : Nat := 512
/-- Transit records (R67). -/
def maxTransits : Nat := 32
/-- Departure pool places (R155). -/
def maxDepartures : Nat := 192
/-- Alarm entries (R167). -/
def maxAlarms : Nat := 48
/-- Profile entries (R189). -/
def profileEntries : Nat := 81
/-- Where an account, a dwell and a 16-bit timer stay (R31, R33, R75, R87, R133). -/
def countMax : Nat := 65535
/-- The dock clock wraps to 0 at this value (R195). -/
def clockModulus : Nat := 4294967296
/-- Hysteresis of the zone conditions, 1.0 °C (R13). -/
def hysteresis : Int := 10
/-- The valid temperature range, in tenths (section 0.7). -/
def tempMin : Int := -500
def tempMax : Int := 500
/-- Code limits of a conversion (R1). -/
def codeLow : Nat := 256
def codeHigh : Nat := 16127
/-- Reference windows A and B (R3), inclusive. -/
def refALow : Nat := 4032
def refAHigh : Nat := 4160
def refBLow : Nat := 12224
def refBHigh : Nat := 12352
/-- Seconds between reference checks (R3). -/
def referencePeriod : Nat := 60
/-- Seconds between re-addressing attempts (R128). -/
def attemptPeriod : Nat := 2
/-- The alarm test runs 10 s (R174). -/
def testSeconds : Nat := 10
/-- The silence limit until the profile load completes (R187). -/
def defaultSilence : Nat := 10
/-- IDENTIFY's block (R186). -/
def vendorCode : Nat := 0x0D57
def partCode : Nat := 0x0240
def revision : Nat := 0x01
/-- The lead byte of every frame (R180). -/
def leadByte : Byte := 0xC3

end Sys2Proof.Config
end

