-- ==== Sys2Proof/Syntax.lean ====
section
/-! DEFINITION. The commands of the KX-240: one constructor of `Instr` for each row of spec/opcode_table.json, with the
operands the event carries. A request row names the port it arrives at and carries the numbers of the frame as they stand
there, so that every PARAM refusal of the manual can arise (notes/assumptions/1.md). -/

namespace Sys2Proof

/-- The three party ports (R179): P the plant party, D the door party, W the warehouse party. -/
inductive Port where
  | plant | door | warehouse
  deriving DecidableEq, Repr

/-- The two probes of a zone (R1). -/
inductive ProbeKind where
  | air | coil
  deriving DecidableEq, Repr

/-- The three alarm conditions of a zone (R13). -/
inductive ConditionKind where
  | highWarn | high | low
  deriving DecidableEq, Repr

/-- A zone's kind, in R189's order. -/
inductive ZoneKind where
  | dock | freezer | blast | ante | unused
  deriving DecidableEq, Repr

/-- The fields of a zone entry (R189); `K` is its kind, a `ZoneKind` in the profile and a raw byte in a request. -/
structure ZoneEntryOf (K : Type) where
  kind : K
  setpoint : Int
  highWarn : Int
  highAlarm : Int
  lowAlarm : Int
  alarmDelay : Nat
  maxOpen : Nat
  pumpdownTimeout : Nat
  maxHeat : Nat
  termination : Nat
  dripTime : Nat
  recoveryTime : Nat
  recoveryBand : Nat
  maxDeferral : Nat
  airOffset : Int
  coilOffset : Int
  airSpan : Nat
  coilSpan : Nat
  deriving DecidableEq, Repr

/-- The fields of a door entry (R88); `E` its enabled flag, `Z` its zone. -/
structure DoorEntryOf (E Z : Type) where
  enabled : E
  zone : Z
  sealThreshold : Nat
  sealDelay : Nat
  lossDelay : Nat
  maxOpenTime : Nat
  deriving DecidableEq, Repr

/-- The fields of a lane entry (section 4.1). -/
structure LaneEntryOf (Z : Type) where
  zone : Z
  capacity : Nat
  deriving DecidableEq, Repr

/-- The fields of a class entry (R189). -/
structure ClassEntry where
  threshold : Int
  budget : Nat
  warnPercent : Nat
  reserve : Nat
  maxDwell : Nat
  deriving DecidableEq, Repr

/-- The fields of the global entry (R189). -/
structure GlobalEntry where
  accrualPeriod : Nat
  maxConcurrent : Nat
  silencePlant : Nat
  silenceDoor : Nat
  silenceWarehouse : Nat
  deriving DecidableEq, Repr

/-- An entry's fields as a request or the nonvolatile store carries them: named values are raw bytes. -/
inductive EntryParams where
  | zone (e : ZoneEntryOf Nat)
  | door (e : DoorEntryOf Nat Nat)
  | lane (e : LaneEntryOf Nat)
  | cls (e : ClassEntry)
  | global (e : GlobalEntry)
  deriving DecidableEq, Repr

/-- What one entry of the nonvolatile store reads as (R193, R194). -/
inductive StoredEntry where
  /-- every byte, check code included, in the erased state -/
  | erased
  /-- the check code fits these values -/
  | fits (e : EntryParams)
  /-- a single-bit error, which the check code corrects to these values -/
  | oneBit (e : EntryParams)
  /-- any other failure of the check code; a torn entry -/
  | bad
  deriving DecidableEq, Repr

/-- What became of the entry that a save was writing when a start-up or the loss of main power ended the save (R193; DESIGN CHOICE of the first
two, notes/assumptions/5.md). -/
inductive WriteCut where
  /-- the write had not begun: the old contents -/
  | kept
  /-- the write was done, and not read back: the new values -/
  | written
  /-- partly new and partly old, with a check code that fits neither -/
  | torn
  deriving DecidableEq, Repr

/-- The commands: one constructor for each row of spec/opcode_table.json. -/
inductive Instr where
  /-- START_UP (R196). `write`: what became of the entry a save was writing (R193). -/
  | startUp (write : WriteCut)
  /-- BACKUP_SUPPLY_LOW (R196) -/
  | backupSupplyLow
  /-- PROFILE_LOAD_COMPLETE (R194). `reads`: the entries that read otherwise than the store held them (errors of the memory);
  an entry with an error keeps it (`readsAs`). -/
  | profileLoadComplete (reads : List (Nat × StoredEntry))
  /-- CONVERSION_COMPLETE (R1) of channel index `channel` (channel n is index n-1) with its 14-bit code -/
  | conversionComplete (channel : Fin 16) (code : Nat)
  /-- REFERENCE_CHECK (R3) with the two reference codes -/
  | referenceCheck (codeA codeB : Nat)
  /-- CONDITION_TIMER_EXPIRY (R13) -/
  | conditionTimerExpiry (z : ZoneId) (c : ConditionKind)
  /-- ACCRUAL_PERIOD_EXPIRY (R23) -/
  | accrualPeriodExpiry
  /-- PALLET_CHARGE (R24): the charge of one record at the expiry now due -/
  | palletCharge (tag : Nat)
  /-- MOVE_OVERDUE_EXPIRY (R76) -/
  | moveOverdueExpiry (tag : Nat)
  /-- SEAL_DELAY_EXPIRY (R91) -/
  | sealDelayExpiry (d : DoorId)
  /-- LOSS_DELAY_EXPIRY (R92) -/
  | lossDelayExpiry (d : DoorId)
  /-- OPEN_LONG_EXPIRY (R100) -/
  | openLongExpiry (d : DoorId)
  /-- LOOP_POLL_SEND (R125) -/
  | loopPollSend
  /-- POLL_REPLY_WINDOW_CLOSE (R126); `reply`: the bytes that came within the window, `none` for silence -/
  | pollReplyWindowClose (reply : Option (List Byte))
  /-- ADDRESSING_REPLY_WINDOW (R123) -/
  | addressingReplyWindow (reply : Option (List Byte))
  /-- READDRESS_ATTEMPT (R129) -/
  | readdressAttempt
  /-- READDRESS_REPLY_WINDOW (R129) -/
  | readdressReplyWindow (reply : Option (List Byte))
  /-- DEFERRAL_EXPIRY (R137) -/
  | deferralExpiry (z : ZoneId)
  /-- PUMPDOWN_TIMEOUT (R142) -/
  | pumpdownTimeout (z : ZoneId)
  /-- HEAT_TIME_EXPIRY (R144) -/
  | heatTimeExpiry (z : ZoneId)
  /-- DRIP_EXPIRY (R145) -/
  | dripExpiry (z : ZoneId)
  /-- RECOVERY_TIME_EXPIRY (R146) -/
  | recoveryTimeExpiry (z : ZoneId)
  /-- SILENCE_TIMER_EXPIRY (R184) -/
  | silenceTimerExpiry (p : Port)
  /-- ALARM_TEST_EXPIRY (R174) -/
  | alarmTestExpiry
  /-- RECEIVE_BYTE (R180) -/
  | receiveByte (p : Port) (b : Byte)
  /-- GAP_TIMER_EXPIRY (R180) -/
  | gapTimerExpiry (p : Port)
  /-- RESPONSE_SENT (R182) -/
  | responseSent (p : Port)
  /-- POLL (R177) -/
  | poll (p : Port)
  /-- NOTICE_MASK (R178) -/
  | noticeMask (p : Port) (set : NoticeSet)
  /-- IDENTIFY (R186) -/
  | identify (p : Port)
  /-- TIME_READ (R195) -/
  | timeRead (p : Port)
  /-- TIME_SET (R195) -/
  | timeSet (p : Port) (value : Nat)
  /-- ZONE_READ (R22) -/
  | zoneRead (p : Port) (zone : Nat)
  /-- DOOR_READ (R118) -/
  | doorRead (p : Port) (door : Nat)
  /-- LANE_READ (R64) -/
  | laneRead (p : Port) (lane : Nat)
  /-- PALLET_READ (R57) -/
  | palletRead (p : Port) (tag : Nat)
  /-- DEFROST_READ (R154) -/
  | defrostRead (p : Port) (zone : Nat)
  /-- ALARM_LIST (R175) -/
  | alarmList (p : Port) (page : Nat)
  /-- ALARM_ACK_ONE (R173): kind code and four-byte subject of R188 -/
  | alarmAckOne (p : Port) (kind subject : Nat)
  /-- ALARM_ACK_ALL (R173) -/
  | alarmAckAll (p : Port)
  /-- ALARM_TEST (R174) -/
  | alarmTest (p : Port)
  /-- PROFILE_READ (R190) -/
  | profileRead (p : Port) (index : Nat)
  /-- PROFILE_SET (R191) -/
  | profileSet (p : Port) (index : Nat) (params : EntryParams)
  /-- PROFILE_SAVE (R193) -/
  | profileSave (p : Port)
  /-- SAVE_ENTRY_WRITE (R193); `readBack`: what the entry reads back as, `none` where it reads back as written -/
  | saveEntryWrite (readBack : Option StoredEntry)
  /-- PORT_STATUS (R185): port code 1 … 3 and clear option byte -/
  | portStatus (p : Port) (named clear : Nat)
  /-- DEFROST_REQUEST (R136) -/
  | defrostRequest (p : Port) (zone : Nat)
  /-- PUMPDOWN_DONE (R142) -/
  | pumpdownDone (p : Port) (zone : Nat)
  /-- HEAT_END (R144) -/
  | heatEnd (p : Port) (zone : Nat)
  /-- DEFROST_ABORT (R148) -/
  | defrostAbort (p : Port) (zone : Nat)
  /-- TRAILER_ASSIGN (R103): direction byte 1 INBOUND, 2 OUTBOUND -/
  | trailerAssign (p : Port) (door trailer direction : Nat)
  /-- DOOR_OPEN (R104) -/
  | doorOpen (p : Port) (door : Nat)
  /-- DOOR_CLOSE (R106) -/
  | doorClose (p : Port) (door : Nat)
  /-- TRAILER_RELEASE (R107) -/
  | trailerRelease (p : Port) (door : Nat)
  /-- LOOP_RESTART (R131) -/
  | loopRestart (p : Port)
  /-- ARRIVE (R49) -/
  | arrive (p : Port) (tag cls door carried : Nat)
  /-- MOVE (R66): the destination as R188's form and index bytes -/
  | move (p : Port) (tag destForm destIndex : Nat) (route : List Nat) (duration : Nat)
  /-- MOVE_DONE (R77) -/
  | moveDone (p : Port) (tag : Nat)
  /-- MOVE_CANCEL (R82) -/
  | moveCancel (p : Port) (tag : Nat)
  /-- RESOLVE (R51): the location as R188's form and index bytes -/
  | resolve (p : Port) (tag form index : Nat)
  /-- DISPOSE_OVERRIDE (R52) -/
  | disposeOverride (p : Port) (tag : Nat)
  /-- DISPOSE_REMOVE (R53) -/
  | disposeRemove (p : Port) (tag : Nat)
  /-- PURGE (R55) -/
  | purge (p : Port) (ranges : List (Nat × Nat))
  /-- MANIFEST_TAKE (R161) -/
  | manifestTake (p : Port) (door : Nat)
  /-- MANIFEST_ACCEPT (R162): confirm byte 0 clear, 1 set -/
  | manifestAccept (p : Port) (door n confirm : Nat)
  /-- MAIN_POWER_LOSS (R196); `write` as in `startUp` -/
  | mainPowerLoss (write : WriteCut)
  /-- DOCK_CLOCK_TICK (R195) -/
  | dockClockTick
  deriving DecidableEq, Repr

end Sys2Proof
end

