-- ==== Sys2Proof/WellFormed.lean ====
section
/-! DEFINITION. The well-formedness of a command: each number fits the field that carries it. A byte field holds 0 … 255, a
two-byte field 0 … 65535 (or its two's complement range), a four-byte field any 32-bit number (R188), a conversion code 14 bits
(R1), and a PURGE at most the ranges one frame can carry (R180, R188). The machine is total on ill-formed commands too. -/

namespace Sys2Proof

def byteOk (n : Nat) : Bool := n < 256
def wordOk (n : Nat) : Bool := n < 65536
def longOk (n : Nat) : Bool := n < 4294967296
/-- A temperature field: two bytes, two's complement (R188). -/
def signedOk (t : Int) : Bool := (-32768 : Int) ≤ t && t ≤ 32767
/-- A conversion code (R1). -/
def codeOk (n : Nat) : Bool := n < 16384
/-- A profile entry index (R189). -/
def indexOk (n : Nat) : Bool := n ≤ 80

def ZoneEntryOf.fieldsOk (e : ZoneEntryOf Nat) : Bool :=
  byteOk e.kind && signedOk e.setpoint && signedOk e.highWarn && signedOk e.highAlarm && signedOk e.lowAlarm &&
  wordOk e.alarmDelay && wordOk e.maxOpen && wordOk e.pumpdownTimeout && wordOk e.maxHeat && wordOk e.termination &&
  wordOk e.dripTime && wordOk e.recoveryTime && wordOk e.recoveryBand && wordOk e.maxDeferral &&
  signedOk e.airOffset && signedOk e.coilOffset && wordOk e.airSpan && wordOk e.coilSpan

def DoorEntryOf.fieldsOk (e : DoorEntryOf Nat Nat) : Bool :=
  byteOk e.enabled && byteOk e.zone && wordOk e.sealThreshold && wordOk e.sealDelay && wordOk e.lossDelay &&
  wordOk e.maxOpenTime

def LaneEntryOf.fieldsOk (e : LaneEntryOf Nat) : Bool := byteOk e.zone && wordOk e.capacity

def ClassEntry.fieldsOk (e : ClassEntry) : Bool :=
  signedOk e.threshold && wordOk e.budget && byteOk e.warnPercent && wordOk e.reserve && wordOk e.maxDwell

def GlobalEntry.fieldsOk (e : GlobalEntry) : Bool :=
  wordOk e.accrualPeriod && byteOk e.maxConcurrent && wordOk e.silencePlant && wordOk e.silenceDoor &&
  wordOk e.silenceWarehouse

/-- Every field of an entry fits its bytes (R190). -/
def EntryParams.fieldsOk : EntryParams → Bool
  | .zone e => e.fieldsOk
  | .door e => e.fieldsOk
  | .lane e => e.fieldsOk
  | .cls e => e.fieldsOk
  | .global e => e.fieldsOk

/-- A store entry holds values that fit their bytes. -/
def StoredEntry.fieldsOk : StoredEntry → Bool
  | .erased => true
  | .fits e => e.fieldsOk
  | .oneBit e => e.fieldsOk
  | .bad => true

def storedOk : Option StoredEntry → Bool
  | none => true
  | some e => e.fieldsOk

/-- Well-formedness of a command. -/
def Instr.wellFormed : Instr → Bool
  | .startUp _ => true
  | .backupSupplyLow => true
  | .profileLoadComplete reads => reads.all fun r => indexOk r.1 && r.2.fieldsOk
  | .conversionComplete _ code => codeOk code
  | .referenceCheck a b => codeOk a && codeOk b
  | .conditionTimerExpiry _ _ => true
  | .accrualPeriodExpiry => true
  | .palletCharge tag => longOk tag
  | .moveOverdueExpiry tag => longOk tag
  | .sealDelayExpiry _ => true
  | .lossDelayExpiry _ => true
  | .openLongExpiry _ => true
  | .loopPollSend => true
  | .pollReplyWindowClose _ => true
  | .addressingReplyWindow _ => true
  | .readdressAttempt => true
  | .readdressReplyWindow _ => true
  | .deferralExpiry _ => true
  | .pumpdownTimeout _ => true
  | .heatTimeExpiry _ => true
  | .dripExpiry _ => true
  | .recoveryTimeExpiry _ => true
  | .silenceTimerExpiry _ => true
  | .alarmTestExpiry => true
  | .receiveByte _ _ => true
  | .gapTimerExpiry _ => true
  | .responseSent _ => true
  | .poll _ => true
  | .noticeMask _ _ => true
  | .identify _ => true
  | .timeRead _ => true
  | .timeSet _ v => longOk v
  | .zoneRead _ z => byteOk z
  | .doorRead _ d => byteOk d
  | .laneRead _ l => byteOk l
  | .palletRead _ tag => longOk tag
  | .defrostRead _ z => byteOk z
  | .alarmList _ page => byteOk page
  | .alarmAckOne _ kind subject => byteOk kind && longOk subject
  | .alarmAckAll _ => true
  | .alarmTest _ => true
  | .profileRead _ index => byteOk index
  | .profileSet _ index params => byteOk index && params.fieldsOk
  | .profileSave _ => true
  | .saveEntryWrite readBack => storedOk readBack
  | .portStatus _ named clear => byteOk named && byteOk clear
  | .defrostRequest _ z => byteOk z
  | .pumpdownDone _ z => byteOk z
  | .heatEnd _ z => byteOk z
  | .defrostAbort _ z => byteOk z
  | .trailerAssign _ d t dir => byteOk d && longOk t && byteOk dir
  | .doorOpen _ d => byteOk d
  | .doorClose _ d => byteOk d
  | .trailerRelease _ d => byteOk d
  | .loopRestart _ => true
  | .arrive _ tag cls d carried => longOk tag && byteOk cls && byteOk d && longOk carried
  | .move _ tag form index route duration =>
      longOk tag && byteOk form && byteOk index && route.length ≤ 4 && route.all byteOk && wordOk duration
  | .moveDone _ tag => longOk tag
  | .moveCancel _ tag => longOk tag
  | .resolve _ tag form index => longOk tag && byteOk form && byteOk index
  | .disposeOverride _ tag => longOk tag
  | .disposeRemove _ tag => longOk tag
  | .purge _ ranges => ranges.length ≤ 31 && ranges.all fun r => longOk r.1 && longOk r.2
  | .manifestTake _ d => byteOk d
  | .manifestAccept _ d n confirm => byteOk d && byteOk n && byteOk confirm
  | .mainPowerLoss _ => true
  | .dockClockTick => true

end Sys2Proof
end

