-- ==== Sys2Proof/Decode.lean ====
section
/-! DEFINITION. The command a table word spells. spec/opcode_table.json gives no row any bits (every row's "fields" is empty),
so no word spells a command; a request reaches the part as a frame of bytes, which Machine/Receive.lean decodes (R180 to R188). -/

namespace Sys2Proof

/-- The command that the `nbits`-bit word `w` spells by the table's bits: none, because no row of the table has bits. -/
def decodeTableWord (_nbits _w : Nat) : Option Instr := none

end Sys2Proof
end

