-- ==== Sys2Proof/Machine/State.lean ====
section
/-! DEFINITION. The state of the KX-240 as plain data: every record, queue, timer, flag and output the manual gives its thirteen
blocks, the queue of waiting commands, and the state right after reset. A quantity the manual DEFINES by other state (a zone's open
count R109, the slots in use R135, a lane's reservations and holds R62, the load reservations R155, pallets aboard R46, the attention
lines R176 and the alarm output R174) is computed in Machine/Flags.lean and Machine/Ops.lean, not stored twice. -/

namespace Sys2Proof.Machine

/-- No command of the KX-240 stops the part: the manual gives every event an effect, a refusal code or no effect. The type
has no constructor, so no step can end in a fault (safe). -/
inductive Fault
  deriving DecidableEq, Repr

/-- Reasons for having no meaning. -/
inductive Refusal where
  /-- Raised only by an arm of `exec` whose command has no meaning yet (safe); no arm raises it. -/
  | notModelled (mnemonic : String)
  deriving DecidableEq, Repr

/-- A timer of the part's own: whether it runs, and its count in seconds. -/
structure Timer where
  running : Bool
  count : Nat
  deriving DecidableEq, Repr

def Timer.stopped : Timer := ⟨false, 0⟩
/-- Started from 0. -/
def Timer.start : Timer := ⟨true, 0⟩
/-- Stopping keeps the count (R133; DEDUCED for the others, notes/assumptions/8.md). The loop's attempt timer is no `Timer` and has its own
rule (notes/assumptions/30.md). -/
def Timer.stop (t : Timer) : Timer := { t with running := false }

/-! ## Probe Scanner and Zone Monitor (chapter 1) -/

/-- The class of a sample, with the temperature a GOOD one carries (R1). -/
inductive Sample where
  | good (t : Int)
  | short
  | openCircuit
  | range
  | reference
  deriving DecidableEq, Repr

/-- The converter state (R4), whether the sweep has begun (R1) and the seconds since the last reference check (R3). -/
structure Converter where
  fault : Bool
  goodCount : Nat
  sweepBegun : Bool
  sinceCheck : Nat
  deriving DecidableEq, Repr

inductive ProbeState where
  | ok | suspect | fault
  deriving DecidableEq, Repr

/-- A probe (section 1.3): state, counts, history oldest first, filtered value, last sample. -/
structure Probe where
  state : ProbeState
  bad : Nat
  good : Nat
  history : List Int
  filtered : Option Int
  last : Option Sample
  deriving DecidableEq, Repr

inductive ConditionState where
  | quiet | pending | active
  deriving DecidableEq, Repr

/-- A zone alarm condition (R13). -/
structure Condition where
  state : ConditionState
  timer : Nat
  deriving DecidableEq, Repr

structure ZoneRecord where
  air : Probe
  coil : Probe
  highWarn : Condition
  high : Condition
  low : Condition
  deriving DecidableEq, Repr

def Probe.initial : Probe := ⟨.ok, 0, 0, [], none, none⟩
def Condition.initial : Condition := ⟨.quiet, 0⟩
/-- A zone record at start-up (R21). -/
def ZoneRecord.initial : ZoneRecord := ⟨.initial, .initial, .initial, .initial, .initial⟩

/-! ## Exposure Counter, Pallet Table, Manifest Store (chapters 2, 3, 4, 8) -/

/-- The accrual period timer (none before the end of start-up; else the running period's length), the seconds of it gone, and
the last accrual stamp (R23). -/
structure Exposure where
  period : Option Nat
  elapsed : Nat
  lastStamp : Nat
  deriving DecidableEq, Repr

inductive Status where
  | normal | warning | over
  deriving DecidableEq, Repr

/-- A place a pallet can be put: the location forms TRAILER, LANE and BULK. -/
inductive Place where
  | trailer (d : DoorId)
  | lane (l : LaneId)
  | bulk (z : ZoneId)
  deriving DecidableEq, Repr

/-- A move's destination (R45). -/
inductive Dest where
  | lane (l : LaneId)
  | bulk (z : ZoneId)
  | door (d : DoorId)
  deriving DecidableEq, Repr

/-- The transit record (R45, R73). -/
structure Transit where
  origin : Place
  dest : Dest
  route : List ZoneId
  duration : Nat
  timer : Nat
  overdue : Bool
  deriving DecidableEq, Repr

/-- A pallet's location (R46). The transit record is present exactly while the location is TRANSIT (R45), so TRANSIT carries it. -/
inductive Location where
  | at (p : Place)
  | transit (t : Transit)
  | unresolved
  deriving DecidableEq, Repr

/-- A location of a history entry: any form but TRANSIT (R47). -/
inductive Spot where
  | at (p : Place)
  | unresolved
  deriving DecidableEq, Repr

/-- A pallet record (R45). `charged` is the model's own: set where the record has had its charge of the expiry now due, so that
no pallet is charged twice for one expiry (R24; notes/assumptions/3.md). -/
structure Pallet where
  tag : Nat
  cls : ClassId
  account : Nat
  residue : Nat
  status : Status
  overridden : Bool
  estimated : Bool
  peak : Option Int
  dwell : Nat
  arrived : Nat
  location : Location
  moves : Nat
  history : List (Spot × Nat)
  charged : Bool
  deriving DecidableEq, Repr

inductive Verdict where
  | normal | warning | over | overridden
  deriving DecidableEq, Repr

/-- A departure record (R157). -/
structure Departure where
  tag : Nat
  cls : ClassId
  account : Nat
  peak : Option Int
  verdict : Verdict
  estimated : Bool
  arrived : Nat
  departed : Nat
  trailer : Nat
  moves : Nat
  history : List (Spot × Nat)
  deriving DecidableEq, Repr

/-! ## Door Supervisor and Door Loop Master (chapters 5, 6) -/

inductive DoorState where
  | disabled | vacant | docked | sealing | sealed | opened | closing | breach | released | lost
  deriving DecidableEq, Repr

inductive Position where
  | closed | moving | opened
  deriving DecidableEq, Repr

inductive Direction where
  | inbound | outbound
  deriving DecidableEq, Repr

inductive BreachCause where
  | seal | restraint
  deriving DecidableEq, Repr

structure Assignment where
  trailer : Nat
  direction : Direction
  deriving DecidableEq, Repr

/-- The station view of R87; none before the first report. -/
structure StationView where
  presence : Option Bool
  restraint : Option Bool
  position : Option Position
  pressure : Option Nat
  stale : Bool
  deriving DecidableEq, Repr

/-- A station's report (section 5.2). -/
structure Report where
  presence : Bool
  restraint : Bool
  position : Position
  pressure : Nat
  deriving DecidableEq, Repr

/-- A door record (R87). `openLong`: the DOOR OPEN LONG condition stands (R100). -/
structure DoorRecord where
  state : DoorState
  view : StationView
  assignment : Option Assignment
  forced : Bool
  openingSeen : Bool
  breachCause : Option BreachCause
  lossOrigin : Option DoorState
  dockedAt : Option Nat
  sealedAt : Option Nat
  openedAt : Option Nat
  releasedAt : Option Nat
  openTimer : Timer
  sealTimer : Timer
  lossTimer : Timer
  openLong : Bool
  deriving DecidableEq, Repr

def StationView.initial : StationView := ⟨none, none, none, none, false⟩

/-- A door record with R87's values after start-up, in a given state and with a given assignment. -/
def DoorRecord.initial (st : DoorState) (a : Option Assignment) : DoorRecord :=
  { state := st, view := .initial, assignment := a, forced := false, openingSeen := false, breachCause := none,
    lossOrigin := none, dockedAt := none, sealedAt := none, openedAt := none, releasedAt := none,
    openTimer := .stopped, sealTimer := .stopped, lossTimer := .stopped, openLong := false }

inductive StationState where
  | ok | lost | notFound
  deriving DecidableEq, Repr

/-- A station entry (R122). `permit`: the door stands in the permit set; `lostAlarm`: the STATION LOST condition stands (R130). -/
structure Station where
  state : StationState
  misses : Nat
  permit : Bool
  lostAlarm : Bool
  deriving DecidableEq, Repr

/-- The loop's mode (R122). -/
inductive LoopMode where
  | addressing | polling
  deriving DecidableEq, Repr

/-- The reply window that is open on the loop, and the frame it belongs to: the part sends no other frame while one is (R125). -/
inductive LoopWindow where
  | idle
  /-- a POLL of the round (R125) -/
  | poll (k : DoorId)
  /-- an addressing run's ASSIGN (R123) -/
  | assign (k : DoorId)
  /-- an addressing run's POLL after a reply that was not good (R123) -/
  | fallback (k : DoorId)
  /-- step 1 of an attempt (R129) -/
  | rePoll (k : DoorId)
  /-- step 2 of an attempt (R129) -/
  | reAssign (k : DoorId)
  /-- a frame of an attempt that has ended because re-addressing became inactive (R129): its reply is no longer judged -/
  | ended
  deriving DecidableEq, Repr

/-- The Door Loop Master (R122). `attemptTimer` runs while `readdressing` is set, and holds 0 otherwise (DESIGN CHOICE,
notes/assumptions/30.md). `lastPolled`: where the round stands; `sent`: the frames the latest loop event put on the pair. -/
structure Loop where
  stations : Bank Station 24
  mode : LoopMode
  readdressing : Bool
  attemptTimer : Nat
  breakIndex : Option DoorId
  lastPolled : Option DoorId
  window : LoopWindow
  sent : List (List Byte)
  deriving DecidableEq, Repr

/-- The Door Loop Master at start-up (R122). -/
def Loop.initial : Loop :=
  { stations := Bank.fill ⟨.notFound, 0, false, false⟩, mode := .addressing, readdressing := false, attemptTimer := 0,
    breakIndex := none, lastPolled := none, window := .idle, sent := [] }

/-! ## Defrost Coordinator (chapter 7) -/

inductive UnitState where
  | idle | requested | pumpdown | heat | drip | recover
  deriving DecidableEq, Repr

inductive EndCause where
  | temperature | plant | time | aborted | silent
  deriving DecidableEq, Repr

/-- A defrost unit (R133) with its zone's heat-permit output (R143). `deferred`: DEFROST DEFERRED stands (R137). -/
structure DefrostUnit where
  state : UnitState
  urgent : Bool
  deferral : Timer
  phase : Timer
  lastCause : Option EndCause
  lastStamp : Option Nat
  heatPermit : Bool
  deferred : Bool
  deriving DecidableEq, Repr

/-- A unit at start-up (R133, R153). -/
def DefrostUnit.initial : DefrostUnit :=
  { state := .idle, urgent := false, deferral := .stopped, phase := .stopped, lastCause := none, lastStamp := none,
    heatPermit := false, deferred := false }

/-! ## Alarm List and Party Ports (chapters 9, 10) -/

/-- The 21 alarm kinds, in R188's code order. -/
inductive AlarmKind where
  | zoneHighWarn | zoneHigh | zoneLow | airProbeFault | coilProbeFault | converterFault
  | doorBreach | doorForced | doorOpenLong | stationLost | defrostDeferred | partySilent
  | palletOver | dwellExceeded | moveOverdue
  | trailerLeft | pumpdownTimeout | heatOverrun | recoveryFail | profileFault | retentionLost
  deriving DecidableEq, Repr

/-- An alarm's subject (R167). -/
inductive Subject where
  | none
  | zone (z : ZoneId)
  | door (d : DoorId)
  | port (p : Port)
  | entry (i : Nat)
  | tag (t : Nat)
  deriving DecidableEq, Repr

inductive AlarmState where
  | activeUnacked | activeAcked | clearedUnacked
  deriving DecidableEq, Repr

structure AlarmEntry where
  kind : AlarmKind
  subject : Subject
  state : AlarmState
  count : Nat
  first : Nat
  last : Nat
  deriving DecidableEq, Repr

/-- The Alarm List (R167): entries oldest first, overflow marker, list sequence number, and the test timer's seconds left. -/
structure AlarmList where
  entries : List AlarmEntry
  overflow : Bool
  seq : Nat
  test : Option Nat
  deriving DecidableEq, Repr

/-- The 16 notice kinds, in R176's number order. -/
inductive NoticeKind where
  | alarmChange | profileChanged | profileSaved | defrostGranted | defrostPhase | openGranted | doorChange | releaseReady
  | manifestReady | palletStatus | moveOverdue | unresolved | loopChange | startUp | zoneChange | clockSet
  deriving DecidableEq, Repr

/-- The result codes of R183. -/
inductive Result where
  | ok | clamped | queued | stopped
  | role | unknown | param | state | notFound | duplicate | full | budget | head | held | busy | inUse | pending
  deriving DecidableEq, Repr

/-- A response: the request's CODE, the result and the payload (R183). -/
structure Response where
  code : Byte
  result : Result
  payload : List Byte
  deriving DecidableEq, Repr

/-- The receiver's four states (R180). -/
inductive RxState where
  | hunt | count | body | check
  deriving DecidableEq, Repr

/-- The receiver (R180): its state, the LENGTH kept, the bytes kept so far, and whether the frame's lead byte arrived while the
port was responding (R182). -/
structure Receiver where
  state : RxState
  length : Nat
  kept : List Byte
  late : Bool
  deriving DecidableEq, Repr

/-- One party port. `response` is the response last formed, which the port sends while `responding`. -/
structure PortRecord where
  rx : Receiver
  responding : Bool
  response : Option Response
  lengthBit : Bool
  crcBit : Bool
  overrunBit : Bool
  crcErrors : Nat
  silence : Timer
  silent : Bool
  enable : NoticeSet
  pending : NoticeSet
  deriving DecidableEq, Repr

structure Ports where
  plant : PortRecord
  door : PortRecord
  warehouse : PortRecord
  deriving DecidableEq, Repr

/-- The role-default enable sets (R176). -/
def defaultEnable : Port → NoticeSet
  | .plant => 0xE01F
  | .door => 0xB0E7
  | .warehouse => 0xAF47

/-- A port at start-up with a given pending set (R187). -/
def PortRecord.initial (p : Port) (pending : NoticeSet) : PortRecord :=
  { rx := ⟨.hunt, 0, [], false⟩, responding := false, response := none, lengthBit := false, crcBit := false,
    overrunBit := false, crcErrors := 0, silence := .start, silent := false, enable := defaultEnable p, pending := pending }

/-! ## Profile Store and Backup Supervisor (chapter 11) -/

abbrev ZoneEntry := ZoneEntryOf ZoneKind
abbrev DoorEntry := DoorEntryOf Bool ZoneId
abbrev LaneEntry := LaneEntryOf ZoneId

/-- The working copy (R189). -/
structure Profile where
  zones : Bank ZoneEntry 8
  doors : Bank DoorEntry 24
  lanes : Bank LaneEntry 32
  classes : Bank ClassEntry 16
  global : GlobalEntry
  deriving DecidableEq, Repr

/-- Default entries (R189, R88). -/
def defaultZone : ZoneEntry :=
  { kind := .freezer, setpoint := -220, highWarn := -180, highAlarm := -150, lowAlarm := -350, alarmDelay := 600,
    maxOpen := 0, pumpdownTimeout := 180, maxHeat := 30, termination := 100, dripTime := 5, recoveryTime := 45,
    recoveryBand := 20, maxDeferral := 60, airOffset := 0, coilOffset := 0, airSpan := 1000, coilSpan := 1000 }
def defaultDoor : DoorEntry :=
  { enabled := false, zone := 0, sealThreshold := 400, sealDelay := 5, lossDelay := 2, maxOpenTime := 30 }
def defaultLane : LaneEntry := ⟨0, 0⟩
def defaultClass : ClassEntry := ⟨-180, 6000, 75, 1500, 30⟩
def defaultGlobal : GlobalEntry := ⟨10, 2, 10, 10, 10⟩

def Profile.default : Profile :=
  { zones := Bank.fill defaultZone, doors := Bank.fill defaultDoor, lanes := Bank.fill defaultLane,
    classes := Bank.fill defaultClass, global := defaultGlobal }

/-- The nonvolatile store, and the save in progress: the index of the next entry to write, or none when IDLE (R193). -/
structure Store where
  entries : Bank StoredEntry 81
  saving : Option (Fin 81)
  deriving DecidableEq, Repr

/-- The start-up report (R197); `kept` is the retention result KEPT. -/
structure StartReport where
  kept : Bool
  outage : Nat
  loaded : Nat
  corrected : Nat
  blank : Nat
  defaulted : Nat
  deriving DecidableEq, Repr

/-- Main power absent; start-up begun and the profile load not completed; running. -/
inductive Power where
  | off | loading | running
  deriving DecidableEq, Repr

/-- The state of the part. -/
structure State where
  /-- commands waiting, first in first out -/
  pending : List Instr
  power : Power
  /-- the retention marker (R196): valid when true -/
  marker : Bool
  /-- the dock clock (R195) -/
  clock : Nat
  clockValid : Bool
  report : StartReport
  converter : Converter
  zones : Bank ZoneRecord 8
  exposure : Exposure
  /-- the Pallet Table, by rising tag (R44 keeps no order; the order is the model's canonical form, DESIGN CHOICE,
  notes/assumptions/23.md) -/
  pallets : List Pallet
  /-- each lane's queue of tags, head first (R63) -/
  lanes : Bank (List Nat) 32
  doors : Bank DoorRecord 24
  /-- each zone's wait queue, head first (R112) -/
  waits : Bank (List DoorId) 8
  loop : Loop
  units : Bank DefrostUnit 8
  /-- the defrost queue, head first (R134) -/
  defrostQueue : List ZoneId
  /-- each door's manifest, head first (R155) -/
  manifests : Bank (List Departure) 24
  alarms : AlarmList
  ports : Ports
  profile : Profile
  store : Store
  deriving DecidableEq, Repr

/-- The part at the beginning of a start-up, with nothing retained and a store never saved: every block at the values R4, R21, R87,
R122, R133, R153, R167, R187 give. The START-UP kind stands in every pending set (R187). A door has no state before the profile
load gives it one (R117): DISABLED stands there until then (notes/assumptions/6.md). -/
def State.cold : State :=
  { pending := [], power := .loading, marker := true, clock := 0, clockValid := false,
    report := ⟨false, 0, 0, 0, 0, 0⟩,
    converter := ⟨false, 0, false, 0⟩,
    zones := Bank.fill .initial,
    exposure := ⟨none, 0, 0⟩,
    pallets := [], lanes := Bank.fill [],
    doors := Bank.fill (DoorRecord.initial .disabled none),
    waits := Bank.fill [],
    loop := .initial,
    units := Bank.fill .initial,
    defrostQueue := [],
    manifests := Bank.fill [],
    alarms := ⟨[], false, 0, none⟩,
    ports := ⟨.initial .plant 0x2000, .initial .door 0x2000, .initial .warehouse 0x2000⟩,
    profile := .default,
    store := ⟨Bank.fill .erased, none⟩ }

/-- The machine right after reset: a start-up that found the retention marker cleared (R196), so that RETENTION LOST stands in the
Alarm List and ALARM CHANGE is pending at every port, on a part whose store has never been saved (R194). The profile load has not
completed. (Which start-up the first state follows is a DESIGN CHOICE: notes/assumptions/6.md.) -/
def State.reset : State :=
  { State.cold with
    alarms := ⟨[⟨.retentionLost, .none, .clearedUnacked, 1, 0, 0⟩], false, 1, none⟩
    ports := ⟨.initial .plant 0x2001, .initial .door 0x2001, .initial .warehouse 0x2001⟩ }

end Sys2Proof.Machine
end

