-- ==== Sys2Proof/Machine/Ops.lean ====
section
/-! DEFINITION. The named operations every block shares: one setter per top-level field, one place to read or write a record of a
bank, posting a notice (R176), raising and clearing an alarm (R169 to R172), the Pallet Table's list operations (R44), the history push
(R47) and unresolving (R58). -/

namespace Sys2Proof.Machine

/-- The answer of every command: a next state. -/
abbrev StepResult := Host.Outcome State Fault Refusal

/-! ## Setters -/

def State.setConverter (s : State) (x : Converter) : State := { s with converter := x }
def State.setZones (s : State) (x : Bank ZoneRecord 8) : State := { s with zones := x }
def State.setExposure (s : State) (x : Exposure) : State := { s with exposure := x }
def State.setPallets (s : State) (x : List Pallet) : State := { s with pallets := x }
def State.setLanes (s : State) (x : Bank (List Nat) 32) : State := { s with lanes := x }
def State.setDoors (s : State) (x : Bank DoorRecord 24) : State := { s with doors := x }
def State.setWaits (s : State) (x : Bank (List DoorId) 8) : State := { s with waits := x }
def State.setLoop (s : State) (x : Loop) : State := { s with loop := x }
def State.setUnits (s : State) (x : Bank DefrostUnit 8) : State := { s with units := x }
def State.setDefrostQueue (s : State) (x : List ZoneId) : State := { s with defrostQueue := x }
def State.setManifests (s : State) (x : Bank (List Departure) 24) : State := { s with manifests := x }
def State.setAlarms (s : State) (x : AlarmList) : State := { s with alarms := x }
def State.setPorts (s : State) (x : Ports) : State := { s with ports := x }
def State.setProfile (s : State) (x : Profile) : State := { s with profile := x }
def State.setStore (s : State) (x : Store) : State := { s with store := x }

def State.putZone (s : State) (z : ZoneId) (r : ZoneRecord) : State := s.setZones (s.zones.put z r)
def State.putLane (s : State) (l : LaneId) (q : List Nat) : State := s.setLanes (s.lanes.put l q)
def State.putDoor (s : State) (d : DoorId) (r : DoorRecord) : State := s.setDoors (s.doors.put d r)
def State.putWait (s : State) (z : ZoneId) (q : List DoorId) : State := s.setWaits (s.waits.put z q)
def State.putUnit (s : State) (z : ZoneId) (u : DefrostUnit) : State := s.setUnits (s.units.put z u)
def State.putManifest (s : State) (d : DoorId) (m : List Departure) : State := s.setManifests (s.manifests.put d m)
def State.putStation (s : State) (d : DoorId) (e : Station) : State :=
  s.setLoop { s.loop with stations := s.loop.stations.put d e }

def Ports.get (ps : Ports) : Port → PortRecord
  | .plant => ps.plant
  | .door => ps.door
  | .warehouse => ps.warehouse

def Ports.put (ps : Ports) : Port → PortRecord → Ports
  | .plant, r => { ps with plant := r }
  | .door, r => { ps with door := r }
  | .warehouse, r => { ps with warehouse := r }

def Ports.map (f : PortRecord → PortRecord) (ps : Ports) : Ports := ⟨f ps.plant, f ps.door, f ps.warehouse⟩

def State.port (s : State) (p : Port) : PortRecord := s.ports.get p
def State.putPort (s : State) (p : Port) (r : PortRecord) : State := s.setPorts (s.ports.put p r)

def State.modDoor (s : State) (d : DoorId) (f : DoorRecord → DoorRecord) : State := s.putDoor d (f (s.doors.get d))
def State.modUnit (s : State) (z : ZoneId) (f : DefrostUnit → DefrostUnit) : State := s.putUnit z (f (s.units.get z))
def State.modPort (s : State) (p : Port) (f : PortRecord → PortRecord) : State := s.putPort p (f (s.port p))

def allZones : List ZoneId := List.finRange 8
def allDoors : List DoorId := List.finRange 24
def allLanes : List LaneId := List.finRange 32
def allPorts : List Port := [.plant, .door, .warehouse]

/-- Do `f` at each item in turn. -/
def forEach {α : Type} (xs : List α) (f : α → State → State) (s : State) : State := xs.foldl (fun t x => f x t) s

/-! ## Which events the part takes -/

/-- An event of the part's own, or a byte on a line: it can arise only while main power is present (DESIGN CHOICE,
notes/assumptions/11.md). -/
def whenPowered (f : State → State) (s : State) : StepResult := .next (if s.power = .off then s else f s)

/-- An event of a block that works on the loaded profile: it can arise only once the profile load has completed (R194; DESIGN CHOICE,
notes/assumptions/11.md). -/
def whenRunning (f : State → State) (s : State) : StepResult := .next (if s.power = .running then f s else s)

/-! ## Notices (R176) -/

/-- A notice kind's bit in a notice set: bit n-1 for kind n (R188). -/
def NoticeKind.bit : NoticeKind → NoticeSet
  | .alarmChange => 0x0001
  | .profileChanged => 0x0002
  | .profileSaved => 0x0004
  | .defrostGranted => 0x0008
  | .defrostPhase => 0x0010
  | .openGranted => 0x0020
  | .doorChange => 0x0040
  | .releaseReady => 0x0080
  | .manifestReady => 0x0100
  | .palletStatus => 0x0200
  | .moveOverdue => 0x0400
  | .unresolved => 0x0800
  | .loopChange => 0x1000
  | .startUp => 0x2000
  | .zoneChange => 0x4000
  | .clockSet => 0x8000

/-- A port takes a notice: kept where its enable set holds the kind, discarded otherwise (R176). -/
def PortRecord.take (k : NoticeKind) (r : PortRecord) : PortRecord :=
  { r with pending := r.pending ||| (r.enable &&& k.bit) }

/-- A notice reaches all three ports at one event (R176). -/
def post (k : NoticeKind) (s : State) : State := s.setPorts (s.ports.map (PortRecord.take k))

def postIf (b : Bool) (k : NoticeKind) (s : State) : State := if b then post k s else s

/-! ## The Alarm List (R167 to R172) -/

/-- An event kind is raised and never cleared (R168). -/
def AlarmKind.isEvent : AlarmKind → Bool
  | .trailerLeft | .pumpdownTimeout | .heatOverrun | .recoveryFail | .profileFault | .retentionLost => true
  | _ => false

def AlarmEntry.isFor (k : AlarmKind) (sub : Subject) (e : AlarmEntry) : Bool := e.kind == k && e.subject == sub

def AlarmList.find (a : AlarmList) (k : AlarmKind) (sub : Subject) : Option AlarmEntry := a.entries.find? (AlarmEntry.isFor k sub)

/-- Change the entry of a kind and subject in its place. -/
def AlarmList.update (a : AlarmList) (k : AlarmKind) (sub : Subject) (f : AlarmEntry → AlarmEntry) : AlarmList :=
  { a with entries := a.entries.map fun e => if AlarmEntry.isFor k sub e then f e else e }

def AlarmList.remove (a : AlarmList) (k : AlarmKind) (sub : Subject) : AlarmList :=
  { a with entries := a.entries.filter fun e => !AlarmEntry.isFor k sub e }

/-- The entry a raise makes: ACTIVE-UNACKED for a condition kind (R169), CLEARED-UNACKED for an event kind (R170). -/
def newEntry (k : AlarmKind) (sub : Subject) (now : Nat) : AlarmEntry :=
  ⟨k, sub, if k.isEvent then .clearedUnacked else .activeUnacked, 1, now, now⟩

/-- A raise that finds a CLEARED-UNACKED entry: one episode more (R169, R170). -/
def AlarmEntry.again (now : Nat) (e : AlarmEntry) : AlarmEntry :=
  { e with state := if e.kind.isEvent then .clearedUnacked else .activeUnacked, count := min 255 (e.count + 1), last := now }

/-- A raise at the list: the list after it, and whether anything changed (R169, R170, R172). -/
def AlarmList.raised (a : AlarmList) (k : AlarmKind) (sub : Subject) (now : Nat) : AlarmList × Bool :=
  match a.find k sub with
  | none =>
      if a.entries.length < Config.maxAlarms then ({ a with entries := a.entries ++ [newEntry k sub now] }, true)
      else ({ a with overflow := true }, !a.overflow)
  | some e =>
      match e.state with
      | .clearedUnacked => (a.update k sub (AlarmEntry.again now), true)
      | .activeUnacked => (a, false)
      | .activeAcked => (a, false)

/-- A clear at the list (R171). -/
def AlarmList.clearedFor (a : AlarmList) (k : AlarmKind) (sub : Subject) (now : Nat) : AlarmList × Bool :=
  match a.find k sub with
  | none => (a, false)
  | some e =>
      match e.state with
      | .activeUnacked => (a.update k sub fun e => { e with state := .clearedUnacked, last := now }, true)
      | .activeAcked => (a.remove k sub, true)
      | .clearedUnacked => (a, false)

/-- Put a changed list in place: the sequence number rises and ALARM CHANGE is posted at each change (R167;
DEDUCED, notes/assumptions/24.md). -/
def commitAlarms (r : AlarmList × Bool) (s : State) : State :=
  if r.2 then post .alarmChange (s.setAlarms { r.1 with seq := (r.1.seq + 1) % 65536 }) else s

/-- A raise reaches the Alarm List, with the dock clock as its stamp. -/
def raise (k : AlarmKind) (sub : Subject) (s : State) : State := commitAlarms (s.alarms.raised k sub s.clock) s

/-- A clear reaches the Alarm List. -/
def clear (k : AlarmKind) (sub : Subject) (s : State) : State := commitAlarms (s.alarms.clearedFor k sub s.clock) s

/-! ## The Pallet Table (R44) -/

def findPallet (s : State) (tag : Nat) : Option Pallet := s.pallets.find? fun p => p.tag == tag

/-- Put a new record in its place by rising tag. -/
def insertByTag (p : Pallet) : List Pallet → List Pallet
  | [] => [p]
  | q :: rest => if p.tag < q.tag then p :: q :: rest else q :: insertByTag p rest

def addPallet (p : Pallet) (s : State) : State := s.setPallets (insertByTag p s.pallets)

/-- Replace the record that has this record's tag. -/
def setPallet (p : Pallet) (s : State) : State := s.setPallets (s.pallets.map fun q => if q.tag == p.tag then p else q)

def erasePallet (tag : Nat) (s : State) : State := s.setPallets (s.pallets.filter fun q => q.tag != tag)

/-- The last eight placings (R47): the push drops the oldest entry of a full list. -/
def pushEntry (h : List (Spot × Nat)) (e : Spot × Nat) : List (Spot × Nat) :=
  (if 8 ≤ h.length then h.drop (h.length - 7) else h) ++ [e]

/-- Located at a place, with the history push of R48. -/
def Pallet.placed (p : Pallet) (where_ : Place) (now : Nat) : Pallet :=
  { p with location := .at where_, history := pushEntry p.history (.at where_, now) }

/-- Made UNRESOLVED, with the history push of R48, R77 and R82. -/
def Pallet.unresolvedAt (p : Pallet) (now : Nat) : Pallet :=
  { p with location := .unresolved, history := pushEntry p.history (.unresolved, now) }

/-- Every record that meets `sel` becomes UNRESOLVED in one event, with one notice where there was any (R58, R59). -/
def unresolveWhere (sel : Pallet → Bool) (s : State) : State :=
  postIf (s.pallets.any sel) .unresolved (s.setPallets (s.pallets.map fun p => if sel p then p.unresolvedAt s.clock else p))

def Pallet.isAt (p : Pallet) (w : Place) : Bool := p.location == .at w

def Pallet.transit? (p : Pallet) : Option Transit :=
  match p.location with
  | .transit t => some t
  | _ => none

end Sys2Proof.Machine
end

