-- ==== Sys2Proof/Machine/Flags.lean ====
section
/-! DEFINITION. Every flag, count and level that the manual defines by other state (DEDUCED,
notes/assumptions/21.md): the substitution flag and accrual temperature
(R10, R11), freeze and bypass (R15, R16), open counts, limits and holds (R109 to R111), slots and gates (R135, R138, R139), lane places
(R62), the pool (R155), pallet status (R34), and the attention and alarm outputs (R174, R176). -/

namespace Sys2Proof.Machine

/-! ## Profile readings -/

def zoneEntry (s : State) (z : ZoneId) : ZoneEntry := s.profile.zones.get z
def doorEntry (s : State) (d : DoorId) : DoorEntry := s.profile.doors.get d
def laneEntry (s : State) (l : LaneId) : LaneEntry := s.profile.lanes.get l
def classEntry (s : State) (c : ClassId) : ClassEntry := s.profile.classes.get c
def doorZone (s : State) (d : DoorId) : ZoneId := (doorEntry s d).zone
def laneZone (s : State) (l : LaneId) : ZoneId := (laneEntry s l).zone
/-- A zone whose kind is not UNUSED. -/
def zoneUsed (s : State) (z : ZoneId) : Bool := (zoneEntry s z).kind != .unused
/-- A door is in service when it is enabled and its zone's kind is DOCK (R88). -/
def inService (s : State) (d : DoorId) : Bool := (doorEntry s d).enabled && (zoneEntry s (doorZone s d)).kind == .dock

/-- The loss threshold (R88). -/
def lossThreshold (e : DoorEntry) : Nat := e.sealThreshold - e.sealThreshold / 8

/-- The zone of a place (R46). -/
def placeZone (s : State) : Place → ZoneId
  | .trailer d => doorZone s d
  | .lane l => laneZone s l
  | .bulk z => z

/-- The zone of a destination (R68). -/
def destZone (s : State) : Dest → ZoneId
  | .lane l => laneZone s l
  | .bulk z => z
  | .door d => doorZone s d

/-! ## Zone Monitor -/

/-- The substitution flag of an air probe (R10). -/
def Probe.substituted (a : Probe) : Bool := a.state == .fault || a.filtered.isNone

def substitutionFlag (s : State) (z : ZoneId) : Bool := (s.zones.get z).air.substituted

def clampTemp (t : Int) : Int := clampInt Config.tempMin Config.tempMax t

/-- The zone's high-alarm limit. -/
def highAlarm (s : State) (z : ZoneId) : Int := (zoneEntry s z).highAlarm

/-- The accrual temperature (R10), for a zone that is not UNUSED (DESIGN CHOICE, notes/assumptions/25.md). -/
def accrualTemp (s : State) (z : ZoneId) : Int :=
  let a := (s.zones.get z).air
  clampTemp (match a.filtered with
    | none => highAlarm s z
    | some t => if a.state = .fault then max t (highAlarm s z) else t)

/-- The substitute (R11). -/
def substitute (s : State) (z : ZoneId) : Int := clampTemp (max (accrualTemp s z) (highAlarm s z))

/-- The conditions are frozen (R15). -/
def conditionsFrozen (s : State) (z : ZoneId) : Bool := (s.zones.get z).air.substituted

/-- The defrost bypass (R16). -/
def UnitState.bypasses : UnitState → Bool
  | .heat | .drip | .recover => true
  | _ => false

def bypassed (s : State) (z : ZoneId) : Bool := (s.units.get z).state.bypasses

/-- Whether a condition's timer is held at 0 by the bypass. -/
def conditionBypassed (s : State) (z : ZoneId) (k : ConditionKind) : Bool := bypassed s z && k != .low

/-! ## Door Supervisor -/

/-- The states that count as open (R109). -/
def DoorState.countsOpen : DoorState → Bool
  | .opened | .closing => true
  | _ => false

/-- DOCKED, SEALING, SEALED, OPEN, CLOSING or BREACH: a trailer stands against the door (R49, R80, R97). -/
def DoorState.hasTrailer : DoorState → Bool
  | .docked | .sealing | .sealed | .opened | .closing | .breach => true
  | _ => false

def doorState (s : State) (d : DoorId) : DoorState := (s.doors.get d).state

/-- A zone's open count (R109). -/
def openCount (s : State) (z : ZoneId) : Nat :=
  (allDoors.filter fun d => doorZone s d == z && (doorState s d).countsOpen).length

/-- A zone's number of doors with the forced-open flag set (R99). -/
def forcedCount (s : State) (z : ZoneId) : Nat :=
  (allDoors.filter fun d => doorZone s d == z && (s.doors.get d).forced).length

/-- Whether HIGH is ACTIVE. -/
def highActive (s : State) (z : ZoneId) : Bool := (s.zones.get z).high.state == .active

/-- The limit in force (R110). -/
def limitInForce (s : State) (z : ZoneId) : Nat :=
  let m := (zoneEntry s z).maxOpen
  if highActive s z then (if m = 0 then 0 else max 1 (m / 2)) else m

/-- The phases that hold a slot and hold doors shut (section 7.0's table). -/
def UnitState.holdsSlot : UnitState → Bool
  | .pumpdown | .heat | .drip => true
  | _ => false

/-- The defrost unit holds new opens (R111). -/
def DefrostUnit.holdsOpens (u : DefrostUnit) : Bool := u.state.holdsSlot || (u.state == .requested && u.urgent)

/-- A zone allows an open (R111). -/
def allowsOpen (s : State) (z : ZoneId) : Bool :=
  !(s.units.get z).holdsOpens && openCount s z < limitInForce s z

def inWaitQueue (s : State) (d : DoorId) : Bool := (s.waits.get (doorZone s d)).contains d

/-- Pallets aboard a door (R46). -/
def aboard (s : State) (d : DoorId) : Nat := (s.pallets.filter fun p => p.isAt (.trailer d)).length

/-- Transits with this door at either end (R87). -/
def Transit.touches (t : Transit) (d : DoorId) : Bool := t.origin == .trailer d || t.dest == .door d

def transitsTouching (s : State) (d : DoorId) : Nat :=
  (s.pallets.filter fun p => (p.transit?.map fun t => t.touches d).getD false).length

def manifestSize (s : State) (d : DoorId) : Nat := (s.manifests.get d).length

/-- An inbound trailer the part can vouch for (R49, R51, R84). -/
def takesInbound (s : State) (d : DoorId) : Bool :=
  (doorState s d).hasTrailer && ((s.doors.get d).assignment.map fun a => a.direction == .inbound).getD false

/-- An outbound trailer the part can vouch for (R80). -/
def takesOutbound (s : State) (d : DoorId) : Bool :=
  (doorState s d).hasTrailer && ((s.doors.get d).assignment.map fun a => a.direction == .outbound).getD false

/-! ## Lanes, pool and table -/

def transitCount (s : State) : Nat := (s.pallets.filter fun p => p.transit?.isSome).length

/-- Inbound reservations of a lane (R62). -/
def inboundReservations (s : State) (l : LaneId) : Nat :=
  (s.pallets.filter fun p => (p.transit?.map fun t => t.dest == .lane l).getD false).length

/-- Origin holds of a lane (R62). -/
def originHolds (s : State) (l : LaneId) : Nat :=
  (s.pallets.filter fun p => (p.transit?.map fun t => t.origin == .lane l).getD false).length

/-- Places in use (R62). -/
def placesInUse (s : State) (l : LaneId) : Nat := (s.lanes.get l).length + inboundReservations s l + originHolds s l

/-- At least one place is free (R62, R70). -/
def laneHasRoom (s : State) (l : LaneId) : Bool := placesInUse s l < (laneEntry s l).capacity

/-- The load reservations (R155). -/
def Transit.isLoad (t : Transit) : Bool :=
  match t.dest with
  | .door _ => true
  | _ => false

def loadReservations (s : State) : Nat :=
  (s.pallets.filter fun p => (p.transit?.map Transit.isLoad).getD false).length

/-- Departure records in all manifests (R155). -/
def poolRecords (s : State) : Nat := (allDoors.map fun d => manifestSize s d).sum

/-- Pallets in a zone (R46). -/
def palletsInZone (s : State) (z : ZoneId) : Nat :=
  (s.pallets.filter fun p => match p.location with
    | .at w => placeZone s w == z
    | _ => false).length

/-! ## Pallet status (R34 to R36) -/

def warnLevel (c : ClassEntry) : Nat := c.budget * c.warnPercent / 100

def statusOf (c : ClassEntry) (account : Nat) : Status :=
  if c.budget ≤ account then .over else if warnLevel c ≤ account then .warning else .normal

/-- The dwell is past the class limit (R36). -/
def dwellExceeds (c : ClassEntry) (dwell : Nat) : Bool := 60 * c.maxDwell < dwell

/-! ## Defrost Coordinator -/

/-- The slots in use (R135). -/
def slotsInUse (s : State) : Nat := (allZones.filter fun z => (s.units.get z).state.holdsSlot).length

/-- A pallet at reserve risk in a zone (R46, R139). -/
def atReserveRisk (s : State) (z : ZoneId) (p : Pallet) : Bool :=
  (match p.location with
    | .at (.lane l) => laneZone s l == z
    | .at (.bulk z') => z' == z
    | _ => false) &&
  p.status != .over && (classEntry s p.cls).budget < p.account + (classEntry s p.cls).reserve

def reserveRiskCount (s : State) (z : ZoneId) : Nat := (s.pallets.filter (atReserveRisk s z)).length

/-- Gate (a) (R138). -/
def gateSlot (s : State) : Bool := slotsInUse s < s.profile.global.maxConcurrent
/-- Gate (b) (R138). -/
def gateDoors (s : State) (z : ZoneId) : Bool := openCount s z == 0 && forcedCount s z == 0
/-- Gate (c) (R138): lifted for an urgent entry. -/
def gateReserve (s : State) (z : ZoneId) : Bool := (s.units.get z).urgent || reserveRiskCount s z == 0
def gatesPass (s : State) (z : ZoneId) : Bool := gateSlot s && gateDoors s z && gateReserve s z

/-! ## Outputs -/

/-- A port's attention line (R176). -/
def attention (s : State) (p : Port) : Bool := s.power != .off && (s.port p).pending != 0

/-- What the Alarm List calls for (R174). -/
def AlarmList.sounds (a : AlarmList) : Bool :=
  a.entries.any (fun e => e.state != .activeAcked) || a.overflow || a.test.isSome

/-- The alarm output (R174). -/
def alarmOutput (s : State) : Bool := s.power != .off && s.alarms.sounds

/-- A port's silence limit in force (R184, R187). -/
def silenceLimit (s : State) (p : Port) : Nat :=
  if s.power = .running then
    match p with
    | .plant => s.profile.global.silencePlant
    | .door => s.profile.global.silenceDoor
    | .warehouse => s.profile.global.silenceWarehouse
  else Config.defaultSilence

end Sys2Proof.Machine
end

