-- ==== Sys2Proof/Machine/Operands.lean ====
section
/-! DEFINITION. Every operand form of a request, and every byte layout of R188: reading zone, door, lane, tag, location, destination,
port, direction, alarm subject and profile entry operands; clamping profile values (R191); and the encoders of the answers. -/

namespace Sys2Proof.Machine

/-! ## Reading operands -/

/-- A number 1 … n as an index. -/
def numbered (n : Nat) (k : Nat) : Option (Fin n) := if h : 1 ≤ k ∧ k ≤ n then some ⟨k - 1, by omega⟩ else none

def zone? (k : Nat) : Option ZoneId := numbered 8 k
def door? (k : Nat) : Option DoorId := numbered 24 k
def lane? (k : Nat) : Option LaneId := numbered 32 k
def class? (k : Nat) : Option ClassId := if h : k < 16 then some ⟨k, h⟩ else none

/-- A pallet tag: 1 … FFFFFFFEh (R44). -/
def tagOk (t : Nat) : Bool := 1 ≤ t && t ≤ 0xFFFFFFFE

/-- P 1, D 2, W 3 (R188). -/
def port? : Nat → Option Port
  | 1 => some .plant
  | 2 => some .door
  | 3 => some .warehouse
  | _ => none

def portCode : Port → Nat
  | .plant => 1
  | .door => 2
  | .warehouse => 3

/-- INBOUND 1, OUTBOUND 2 (R188). -/
def direction? : Nat → Option Direction
  | 1 => some .inbound
  | 2 => some .outbound
  | _ => none

/-- A flag byte: 0 clear, 1 set (R188). -/
def flag? : Nat → Option Bool
  | 0 => some false
  | 1 => some true
  | _ => none

/-- A RESOLVE location: TRAILER 1, LANE 2 or BULK 3 with its index (R51, R188). -/
def place? (form index : Nat) : Option Place :=
  match form with
  | 1 => (door? index).map .trailer
  | 2 => (lane? index).map .lane
  | 3 => (zone? index).map .bulk
  | _ => none

/-- A MOVE destination: LANE 2, BULK 3 or DOOR 6 with its index (R66, R188). -/
def dest? (form index : Nat) : Option Dest :=
  match form with
  | 2 => (lane? index).map .lane
  | 3 => (zone? index).map .bulk
  | 6 => (door? index).map .door
  | _ => none

/-- A MOVE route: 1 … 4 zones, each 1 … 8 (R66). -/
def route? (zs : List Nat) : Option (List ZoneId) :=
  if 1 ≤ zs.length ∧ zs.length ≤ 4 then zs.mapM zone? else none

/-- The alarm kinds in R188's code order. -/
def alarmKinds : List AlarmKind :=
  [.zoneHighWarn, .zoneHigh, .zoneLow, .airProbeFault, .coilProbeFault, .converterFault, .doorBreach, .doorForced,
   .doorOpenLong, .stationLost, .defrostDeferred, .partySilent, .palletOver, .dwellExceeded, .moveOverdue, .trailerLeft,
   .pumpdownTimeout, .heatOverrun, .recoveryFail, .profileFault, .retentionLost]

def alarmKind? (code : Nat) : Option AlarmKind := if code = 0 then none else alarmKinds[code - 1]?

def AlarmKind.code (k : AlarmKind) : Nat := alarmKinds.idxOf k + 1

/-- A subject of the form the kind takes (R168), read from the four subject bytes (R188). -/
def AlarmKind.subject? (k : AlarmKind) (v : Nat) : Option Subject :=
  match k with
  | .zoneHighWarn | .zoneHigh | .zoneLow | .airProbeFault | .coilProbeFault | .defrostDeferred
  | .pumpdownTimeout | .heatOverrun | .recoveryFail => (zone? v).map .zone
  | .doorBreach | .doorForced | .doorOpenLong | .stationLost | .trailerLeft => (door? v).map .door
  | .partySilent => (port? v).map .port
  | .palletOver | .dwellExceeded | .moveOverdue => if tagOk v then some (.tag v) else none
  | .profileFault => if v ≤ 80 then some (.entry v) else none
  | .converterFault | .retentionLost => if v = 0 then some .none else none

/-! ## Profile entries (R189, R191) -/

/-- An entry index (R189). -/
inductive EntryId where
  | zone (z : ZoneId)
  | door (d : DoorId)
  | lane (l : LaneId)
  | cls (c : ClassId)
  | global
  deriving DecidableEq, Repr

/-- R189's index order: zones 0 … 7, doors 8 … 31, lanes 32 … 63, classes 64 … 79, global 80. -/
def entryId (i : Fin 81) : EntryId :=
  if h : i.val < 8 then .zone ⟨i.val, h⟩
  else if h : i.val < 32 then .door ⟨i.val - 8, by omega⟩
  else if h : i.val < 64 then .lane ⟨i.val - 32, by omega⟩
  else if h : i.val < 80 then .cls ⟨i.val - 64, by omega⟩
  else .global

def entryIndex? (n : Nat) : Option (Fin 81) := if h : n < 81 then some ⟨n, h⟩ else none

def zoneKind? : Nat → Option ZoneKind
  | 0 => some .dock
  | 1 => some .freezer
  | 2 => some .blast
  | 3 => some .ante
  | 4 => some .unused
  | _ => none

def zoneKindCode : ZoneKind → Nat
  | .dock => 0
  | .freezer => 1
  | .blast => 2
  | .ante => 3
  | .unused => 4

/-- Each numeric field clamped to the nearer end of its range (R191, ranges of R88 and R189), then a class's reserve to its budget. -/
def clampParams : EntryParams → EntryParams
  | .zone e => .zone { e with
      setpoint := clampInt (-500) 200 e.setpoint
      highWarn := clampInt (-500) 500 e.highWarn
      highAlarm := clampInt (-500) 500 e.highAlarm
      lowAlarm := clampInt (-500) 500 e.lowAlarm
      alarmDelay := clampNat 30 3600 e.alarmDelay
      maxOpen := clampNat 0 12 e.maxOpen
      pumpdownTimeout := clampNat 30 600 e.pumpdownTimeout
      maxHeat := clampNat 5 90 e.maxHeat
      termination := clampNat 0 250 e.termination
      dripTime := clampNat 1 20 e.dripTime
      recoveryTime := clampNat 5 120 e.recoveryTime
      recoveryBand := clampNat 5 100 e.recoveryBand
      maxDeferral := clampNat 0 240 e.maxDeferral
      airOffset := clampInt (-600) 600 e.airOffset
      coilOffset := clampInt (-600) 600 e.coilOffset
      airSpan := clampNat 500 1500 e.airSpan
      coilSpan := clampNat 500 1500 e.coilSpan }
  | .door e => .door { e with
      sealThreshold := clampNat 50 2000 e.sealThreshold
      sealDelay := clampNat 1 30 e.sealDelay
      lossDelay := clampNat 1 10 e.lossDelay
      maxOpenTime := clampNat 1 240 e.maxOpenTime }
  | .lane e => .lane { e with capacity := clampNat 0 24 e.capacity }
  | .cls e =>
      let budget := clampNat 1 60000 e.budget
      .cls { threshold := clampInt (-500) 100 e.threshold, budget := budget, warnPercent := clampNat 50 99 e.warnPercent,
             reserve := clampNat 0 budget e.reserve, maxDwell := clampNat 1 240 e.maxDwell }
  | .global e => .global
      { accrualPeriod := clampNat 5 60 e.accrualPeriod, maxConcurrent := clampNat 1 4 e.maxConcurrent,
        silencePlant := clampNat 2 60 e.silencePlant, silenceDoor := clampNat 2 60 e.silenceDoor,
        silenceWarehouse := clampNat 2 60 e.silenceWarehouse }

/-- Check 3 of R191. -/
def paramsOrdered : EntryParams → Bool
  | .zone e => e.lowAlarm < e.setpoint && e.setpoint < e.highWarn && e.highWarn ≤ e.highAlarm
  | _ => true

def namedZone (e : ZoneEntryOf Nat) : Option ZoneEntry := (zoneKind? e.kind).map fun k => { e with kind := k }

/-- The enabled flag is coded as a flag, 0 no and 1 yes, and its zone as a number (DEDUCED of the flag, notes/assumptions/34.md). -/
def namedDoor (e : DoorEntryOf Nat Nat) : Option DoorEntry :=
  match flag? e.enabled, zone? e.zone with
  | some b, some z => some { e with enabled := b, zone := z }
  | _, _ => none

def namedLane (e : LaneEntryOf Nat) : Option LaneEntry := (zone? e.zone).map fun z => ⟨z, e.capacity⟩

/-- Put an entry's fields into the working copy; none where they are of another family, or a named value is none of its values
(check 1 of R191). -/
def Profile.install (pr : Profile) (id : EntryId) (e : EntryParams) : Option Profile :=
  match id, e with
  | .zone z, .zone e => (namedZone e).map fun x => { pr with zones := pr.zones.put z x }
  | .door d, .door e => (namedDoor e).map fun x => { pr with doors := pr.doors.put d x }
  | .lane l, .lane e => (namedLane e).map fun x => { pr with lanes := pr.lanes.put l x }
  | .cls c, .cls e => some { pr with classes := pr.classes.put c e }
  | .global, .global e => some { pr with global := e }
  | _, _ => none

/-- An entry of the working copy with its named values as bytes; the enabled flag is 0 for no and 1 for yes (DEDUCED,
notes/assumptions/34.md). -/
def Profile.params (pr : Profile) : EntryId → EntryParams
  | .zone z => let e := pr.zones.get z; .zone { e with kind := zoneKindCode e.kind }
  | .door d => let e := pr.doors.get d; .door { e with enabled := if e.enabled then 1 else 0, zone := e.zone.val + 1 }
  | .lane l => let e := pr.lanes.get l; .lane ⟨e.zone.val + 1, e.capacity⟩
  | .cls c => .cls (pr.classes.get c)
  | .global => .global pr.global

/-! ## Writing bytes (R188) -/

def u8 (n : Nat) : List Byte := [BitVec.ofNat 8 n]
/-- Two bytes, most significant first. -/
def u16 (n : Nat) : List Byte := [BitVec.ofNat 8 (n / 256), BitVec.ofNat 8 n]
/-- Four bytes, most significant first. -/
def u32 (n : Nat) : List Byte := u16 (n / 65536) ++ u16 n
/-- Two bytes, two's complement. -/
def i16 (t : Int) : List Byte := u16 (t % 65536).toNat
/-- A temperature; none is 8000h. -/
def tempBytes : Option Int → List Byte
  | none => u16 0x8000
  | some t => i16 t
def flagBytes (b : Bool) : List Byte := u8 (if b then 1 else 0)
/-- A timer: stopped or running, then its count. -/
def timerBytes (t : Timer) : List Byte := flagBytes t.running ++ u16 t.count
/-- An item that may be none: absent is 0 followed by zeros of the item's length. -/
def optBytes (len : Nat) : Option (List Byte) → List Byte
  | none => 0 :: List.replicate len 0
  | some bs => 1 :: bs

def placeBytes : Place → List Byte
  | .trailer d => u8 1 ++ u8 (d.val + 1)
  | .lane l => u8 2 ++ u8 (l.val + 1)
  | .bulk z => u8 3 ++ u8 (z.val + 1)
def locationBytes : Location → List Byte
  | .at p => placeBytes p
  | .transit _ => u8 4 ++ u8 0
  | .unresolved => u8 5 ++ u8 0
def spotBytes : Spot → List Byte
  | .at p => placeBytes p
  | .unresolved => u8 5 ++ u8 0
def destBytes : Dest → List Byte
  | .lane l => u8 2 ++ u8 (l.val + 1)
  | .bulk z => u8 3 ++ u8 (z.val + 1)
  | .door d => u8 6 ++ u8 (d.val + 1)

def ProbeState.code : ProbeState → Nat
  | .ok => 0
  | .suspect => 1
  | .fault => 2
def ConditionState.code : ConditionState → Nat
  | .quiet => 0
  | .pending => 1
  | .active => 2
def Status.code : Status → Nat
  | .normal => 0
  | .warning => 1
  | .over => 2
def Verdict.code : Verdict → Nat
  | .normal => 0
  | .warning => 1
  | .over => 2
  | .overridden => 3
def DoorState.code : DoorState → Nat
  | .disabled => 0
  | .vacant => 1
  | .docked => 2
  | .sealing => 3
  | .sealed => 4
  | .opened => 5
  | .closing => 6
  | .breach => 7
  | .released => 8
  | .lost => 9
def Position.code : Position → Nat
  | .closed => 0
  | .moving => 1
  | .opened => 2
def BreachCause.code : BreachCause → Nat
  | .seal => 0
  | .restraint => 1
def Direction.code : Direction → Nat
  | .inbound => 1
  | .outbound => 2
def UnitState.code : UnitState → Nat
  | .idle => 0
  | .requested => 1
  | .pumpdown => 2
  | .heat => 3
  | .drip => 4
  | .recover => 5
def EndCause.code : EndCause → Nat
  | .temperature => 0
  | .plant => 1
  | .time => 2
  | .aborted => 3
  | .silent => 4
def RxState.code : RxState → Nat
  | .hunt => 0
  | .count => 1
  | .body => 2
  | .check => 3
def AlarmState.code : AlarmState → Nat
  | .activeUnacked => 0
  | .activeAcked => 1
  | .clearedUnacked => 2

/-- The result codes (R183). -/
def Result.code : Result → Nat
  | .ok => 0x00
  | .clamped => 0x01
  | .queued => 0x02
  | .stopped => 0x03
  | .role => 0x10
  | .unknown => 0x11
  | .param => 0x12
  | .state => 0x13
  | .notFound => 0x14
  | .duplicate => 0x15
  | .full => 0x16
  | .budget => 0x17
  | .head => 0x18
  | .held => 0x19
  | .busy => 0x1A
  | .inUse => 0x1B
  | .pending => 0x1C

/-- A last sample: a class byte, then a temperature (R188). -/
def sampleBytes : Option Sample → List Byte
  | none => u8 0xFF ++ u16 0x8000
  | some (.good t) => u8 0 ++ i16 t
  | some .short => u8 1 ++ u16 0x8000
  | some .openCircuit => u8 2 ++ u16 0x8000
  | some .range => u8 3 ++ u16 0x8000
  | some .reference => u8 4 ++ u16 0x8000

def historyBytes (h : List (Spot × Nat)) : List Byte := u8 h.length ++ h.flatMap fun e => spotBytes e.1 ++ u32 e.2

/-- Four bytes of subject: a tag, or a number in the last byte, or 0 (R188). -/
def subjectBytes : Subject → List Byte
  | .none => u32 0
  | .zone z => u32 (z.val + 1)
  | .door d => u32 (d.val + 1)
  | .port p => u32 (portCode p)
  | .entry i => u32 i
  | .tag t => u32 t

/-- An alarm entry, 14 bytes (R188). -/
def alarmEntryBytes (e : AlarmEntry) : List Byte :=
  u8 (64 * e.state.code + e.kind.code) ++ subjectBytes e.subject ++ u8 e.count ++ u32 e.first ++ u32 e.last

/-- The bits of a byte, given as flags from bit 0 up. -/
def bitsByte (bs : List Bool) : Nat := bs.foldr (fun b acc => (if b then 1 else 0) + 2 * acc) 0

/-- The transit part of a pallet record (R188); unused route zones are 0. -/
def transitBytes (t : Transit) : List Byte :=
  placeBytes t.origin ++ destBytes t.dest ++ u8 t.route.length ++
  (List.range 4).flatMap (fun i => u8 (match t.route[i]? with
    | some z => z.val + 1
    | none => 0)) ++ u16 t.duration ++ u16 t.timer

/-- The pallet record, as the PALLET READ payload (R57, R188). -/
def palletBytes (c : ClassEntry) (p : Pallet) : List Byte :=
  u32 p.tag ++ u8 p.cls.val ++ u16 p.account ++ u8 p.residue ++ u8 p.status.code ++
  u8 (bitsByte [p.overridden, p.estimated, p.transit?.isSome, (p.transit?.map Transit.overdue).getD false]) ++
  tempBytes p.peak ++ u16 p.dwell ++ u32 p.arrived ++ locationBytes p.location ++ u8 p.moves ++
  u16 (c.budget - p.account) ++ historyBytes p.history ++
  (match p.transit? with
    | some t => transitBytes t
    | none => [])

/-- A flagged departure record (R159). -/
def Departure.flagged (r : Departure) : Bool := r.verdict == .over || r.verdict == .overridden || r.estimated

/-- A departure record, as MANIFEST TAKE returns it (R188). -/
def departureBytes (r : Departure) : List Byte :=
  u32 r.tag ++ u8 r.cls.val ++ u16 r.account ++ tempBytes r.peak ++ u8 r.verdict.code ++
  u8 (bitsByte [r.estimated, r.flagged]) ++ u32 r.arrived ++ u32 r.departed ++ u32 r.trailer ++ u8 r.moves ++
  historyBytes r.history

/-- An entry's field bytes (R190): 35, 10, 3, 9 or 9 by family. -/
def paramsBytes : EntryParams → List Byte
  | .zone e =>
      u8 e.kind ++ i16 e.setpoint ++ i16 e.highWarn ++ i16 e.highAlarm ++ i16 e.lowAlarm ++ u16 e.alarmDelay ++
      u16 e.maxOpen ++ u16 e.pumpdownTimeout ++ u16 e.maxHeat ++ u16 e.termination ++ u16 e.dripTime ++
      u16 e.recoveryTime ++ u16 e.recoveryBand ++ u16 e.maxDeferral ++ i16 e.airOffset ++ i16 e.coilOffset ++
      u16 e.airSpan ++ u16 e.coilSpan
  | .door e =>
      u8 e.enabled ++ u8 e.zone ++ u16 e.sealThreshold ++ u16 e.sealDelay ++ u16 e.lossDelay ++ u16 e.maxOpenTime
  | .lane e => u8 e.zone ++ u16 e.capacity
  | .cls e => i16 e.threshold ++ u16 e.budget ++ u8 e.warnPercent ++ u16 e.reserve ++ u16 e.maxDwell
  | .global e =>
      u16 e.accrualPeriod ++ u8 e.maxConcurrent ++ u16 e.silencePlant ++ u16 e.silenceDoor ++ u16 e.silenceWarehouse

/-! ## Reading bytes -/

/-- The number that bytes spell, most significant first. -/
def natOfBytes (bs : List Byte) : Nat := bs.foldl (fun acc b => 256 * acc + b.toNat) 0

def rd16 (a b : Byte) : Nat := 256 * a.toNat + b.toNat
/-- A two-byte field in two's complement. -/
def rdI16 (a b : Byte) : Int := if rd16 a b < 32768 then (rd16 a b : Int) else (rd16 a b : Int) - 65536
def rd32 (a b c d : Byte) : Nat := 65536 * rd16 a b + rd16 c d

/-- The two-byte field that starts at byte `i`. -/
def fieldAt (bs : List Byte) (i : Nat) : Nat := rd16 (bs.getD i 0) (bs.getD (i + 1) 0)
def signedAt (bs : List Byte) (i : Nat) : Int := rdI16 (bs.getD i 0) (bs.getD (i + 1) 0)

/-- A zone entry's 35 field bytes read back, in R189's order. -/
def readZone (bs : List Byte) : ZoneEntryOf Nat :=
  { kind := (bs.getD 0 0).toNat, setpoint := signedAt bs 1, highWarn := signedAt bs 3, highAlarm := signedAt bs 5,
    lowAlarm := signedAt bs 7, alarmDelay := fieldAt bs 9, maxOpen := fieldAt bs 11, pumpdownTimeout := fieldAt bs 13,
    maxHeat := fieldAt bs 15, termination := fieldAt bs 17, dripTime := fieldAt bs 19, recoveryTime := fieldAt bs 21,
    recoveryBand := fieldAt bs 23, maxDeferral := fieldAt bs 25, airOffset := signedAt bs 27, coilOffset := signedAt bs 29,
    airSpan := fieldAt bs 31, coilSpan := fieldAt bs 33 }

/-- The field bytes of an entry of a given family, read back; none where the length is not the family's (R190, R191). -/
def readParams (id : EntryId) (bs : List Byte) : Option EntryParams :=
  match id with
  | .zone _ => if bs.length = 35 then some (.zone (readZone bs)) else none
  | .door _ =>
      if bs.length = 10 then
        some (.door ⟨(bs.getD 0 0).toNat, (bs.getD 1 0).toNat, fieldAt bs 2, fieldAt bs 4, fieldAt bs 6, fieldAt bs 8⟩)
      else none
  | .lane _ => if bs.length = 3 then some (.lane ⟨(bs.getD 0 0).toNat, fieldAt bs 1⟩) else none
  | .cls _ =>
      if bs.length = 9 then
        some (.cls ⟨signedAt bs 0, fieldAt bs 2, (bs.getD 4 0).toNat, fieldAt bs 5, fieldAt bs 7⟩)
      else none
  | .global =>
      if bs.length = 9 then
        some (.global ⟨fieldAt bs 0, (bs.getD 2 0).toNat, fieldAt bs 3, fieldAt bs 5, fieldAt bs 7⟩)
      else none

/-! ## CRC-8 (R181) -/

/-- One bit shifted through the register: polynomial 2Fh, most significant bit first. -/
def crcBit (r : Byte) : Byte := if r.getLsbD 7 then (r <<< 1) ^^^ 0x2F else r <<< 1

def crcByte (r b : Byte) : Byte :=
  crcBit (crcBit (crcBit (crcBit (crcBit (crcBit (crcBit (crcBit (r ^^^ b))))))))

/-- The CRC over bytes, from the starting value FFh, not inverted. -/
def crc8 (bs : List Byte) : Byte := bs.foldl crcByte 0xFF

end Sys2Proof.Machine
end

