-- ==== Sys2Proof/Machine/Serve.lean ====
section
/-! DEFINITION. How a port takes a request: the request codes of section 10.6 with their roles (R179, R183), what a valid frame does
before its request is dispatched (R181, R184), the dispatch checks and the response (R182, R183). -/

namespace Sys2Proof.Machine

/-- The requests of section 10.6's table. -/
inductive Req where
  | poll | noticeMask | identify | timeRead | timeSet | zoneRead | doorRead | laneRead | palletRead | defrostRead
  | alarmList | alarmAck | alarmTest | profileRead | profileSet | profileSave | portStatus
  | defrostRequest | pumpdownDone | heatEnd | defrostAbort
  | trailerAssign | doorOpen | doorClose | trailerRelease | loopRestart
  | arrive | move | moveDone | moveCancel | resolve | dispose | purge | manifestTake | manifestAccept
  deriving DecidableEq, Repr

/-- The request codes (section 10.6). -/
def Req.code : Req → Byte
  | .poll => 0x01
  | .noticeMask => 0x02
  | .identify => 0x03
  | .timeRead => 0x04
  | .timeSet => 0x05
  | .zoneRead => 0x06
  | .doorRead => 0x07
  | .laneRead => 0x08
  | .palletRead => 0x09
  | .defrostRead => 0x0A
  | .alarmList => 0x0B
  | .alarmAck => 0x0C
  | .alarmTest => 0x0D
  | .profileRead => 0x0E
  | .profileSet => 0x0F
  | .profileSave => 0x10
  | .portStatus => 0x11
  | .defrostRequest => 0x20
  | .pumpdownDone => 0x21
  | .heatEnd => 0x22
  | .defrostAbort => 0x23
  | .trailerAssign => 0x30
  | .doorOpen => 0x31
  | .doorClose => 0x32
  | .trailerRelease => 0x33
  | .loopRestart => 0x34
  | .arrive => 0x40
  | .move => 0x41
  | .moveDone => 0x42
  | .moveCancel => 0x43
  | .resolve => 0x44
  | .dispose => 0x45
  | .purge => 0x46
  | .manifestTake => 0x47
  | .manifestAccept => 0x48

def allReqs : List Req :=
  [.poll, .noticeMask, .identify, .timeRead, .timeSet, .zoneRead, .doorRead, .laneRead, .palletRead, .defrostRead,
   .alarmList, .alarmAck, .alarmTest, .profileRead, .profileSet, .profileSave, .portStatus,
   .defrostRequest, .pumpdownDone, .heatEnd, .defrostAbort,
   .trailerAssign, .doorOpen, .doorClose, .trailerRelease, .loopRestart,
   .arrive, .move, .moveDone, .moveCancel, .resolve, .dispose, .purge, .manifestTake, .manifestAccept]

/-- Check 1 of R183: the request a CODE names. -/
def Req.ofCode? (b : Byte) : Option Req := allReqs.find? fun r => r.code == b

/-- The role a request belongs to; none for a request open to any party (R179). -/
def Req.role : Req → Option Port
  | .defrostRequest | .pumpdownDone | .heatEnd | .defrostAbort => some .plant
  | .trailerAssign | .doorOpen | .doorClose | .trailerRelease | .loopRestart => some .door
  | .arrive | .move | .moveDone | .moveCancel | .resolve | .dispose | .purge | .manifestTake | .manifestAccept =>
      some .warehouse
  | _ => none

/-- Check 2 of R183. -/
def Req.openTo (r : Req) (p : Port) : Bool :=
  match r.role with
  | none => true
  | some q => q == p

/-- Accepted before the profile load completes: IDENTIFY, POLL and PORT STATUS (R183). -/
def Req.early : Req → Bool
  | .poll | .identify | .portStatus => true
  | _ => false

/-- What a request answers: a result and, with an accepting result, a payload (R183). -/
structure Answer where
  result : Result
  payload : List Byte
  deriving DecidableEq, Repr

/-- The state a request leaves, and its answer. -/
abbrev Served := State × Answer

/-- A refusal carries no payload, and a refused request changes nothing (R183). -/
def refuse (r : Result) (s : State) : Served := (s, ⟨r, []⟩)

def answer (r : Result) (payload : List Byte) (s : State) : Served := (s, ⟨r, payload⟩)

/-- A valid frame at a port (R181, R184): the silence timer runs again from 0, a standing PARTY SILENT ends, and the port is
responding from its dispatch on (R182). -/
def takeFrame (p : Port) (s : State) : State :=
  let t := s.modPort p fun r => { r with silence := .start, silent := false, responding := true }
  if (s.port p).silent then clear .partySilent (.port p) t else t

/-- The response is formed (R183). -/
def respond (p : Port) (code : Byte) (a : Answer) (s : State) : State :=
  s.modPort p fun r => { r with response := some ⟨code, a.result, a.payload⟩ }

/-- Checks 2 to 4 of R183 in order, then the request at the block that owns it. `body` is none where the parameter bytes do not
match the request's form (check 4). -/
def dispatched (p : Port) (r : Req) (body : Option (State → Served)) (s : State) : Served :=
  if !r.openTo p then refuse .role s
  else if s.power != .running && !r.early then refuse .busy s
  else match body with
    | none => refuse .param s
    | some f => f s

/-- A frame dispatched at its port, and answered. -/
def dispatch (p : Port) (r : Req) (body : Option (State → Served)) (s : State) : State :=
  let a := dispatched p r body s
  respond p r.code a.2 a.1

/-- A frame whose lead byte came while its port was responding is dropped: the OVERRUN sticky bit is set, and neither the CRC count nor the
silence timer is touched (R182). -/
def dropLate (p : Port) (s : State) : State := s.modPort p fun r => { r with overrunBit := true }

/-- A whole valid frame with this request at its port: dropped where the port is responding (R182), else taken and dispatched. A receiver
that stands within another frame is left as it is (DESIGN CHOICE, notes/assumptions/1.md). -/
def takeRequest (p : Port) (r : Req) (body : State → Served) (s : State) : State :=
  if (s.port p).responding then dropLate p s else dispatch p r (some body) (takeFrame p s)

/-- A request row: one whole valid frame with this request (notes/assumptions/1.md). -/
def serve (p : Port) (r : Req) (body : State → Served) (s : State) : StepResult := whenPowered (takeRequest p r body) s

/-- The response frame on the line (R188): C3h, LENGTH, CODE + 80h, RESULT, payload, CRC. The sum of R183 is taken modulo 256, so that the
UNKNOWN answer to a CODE of 80h or above carries CODE less 80h (DESIGN CHOICE, notes/assumptions/27.md). -/
def Response.frame (r : Response) : List Byte :=
  let body := (r.code + 0x80) :: u8 r.result.code ++ r.payload
  let counted := u8 body.length ++ body
  Config.leadByte :: counted ++ [crc8 counted]

end Sys2Proof.Machine
end

