-- ==== Sys2Proof/Machine/Conditions.lean ====
section
/-! DEFINITION. The three alarm conditions of a zone (R13 to R17): their tests, their evaluation under the freeze of R15 and the
bypass of R16, and the expiry of a delay timer. What an exit of HIGH from ACTIVE does to waiting doors follows in `settle`
(Machine/Grants.lean), which every event that evaluates conditions ends with. -/

namespace Sys2Proof.Machine

def ZoneRecord.condition (r : ZoneRecord) : ConditionKind → Condition
  | .highWarn => r.highWarn
  | .high => r.high
  | .low => r.low

def ZoneRecord.withCondition (r : ZoneRecord) (k : ConditionKind) (c : Condition) : ZoneRecord :=
  match k with
  | .highWarn => { r with highWarn := c }
  | .high => { r with high := c }
  | .low => { r with low := c }

/-- The alarm kind a condition raises (R13). -/
def conditionAlarm : ConditionKind → AlarmKind
  | .highWarn => .zoneHighWarn
  | .high => .zoneHigh
  | .low => .zoneLow

/-- The condition holds at filtered air value `t` (R13). -/
def conditionHolds (e : ZoneEntry) (k : ConditionKind) (t : Int) : Bool :=
  match k with
  | .highWarn => e.highWarn < t
  | .high => e.highAlarm < t
  | .low => t < e.lowAlarm

/-- The clearing point is reached (R13, R14). -/
def conditionClears (e : ZoneEntry) (k : ConditionKind) (t : Int) : Bool :=
  match k with
  | .highWarn => t ≤ e.highWarn - Config.hysteresis
  | .high => t ≤ e.highAlarm - Config.hysteresis
  | .low => e.lowAlarm + Config.hysteresis ≤ t

/-- A condition judged against a filtered value while not frozen (R13, R14, R16): it never enters ACTIVE here. -/
def judgeCondition (e : ZoneEntry) (k : ConditionKind) (held : Bool) (t : Int) (c : Condition) : Condition :=
  match c.state with
  | .quiet => if conditionHolds e k t then ⟨.pending, 0⟩ else c
  | .pending => if conditionHolds e k t then (if held then ⟨.pending, 0⟩ else c) else ⟨.quiet, 0⟩
  | .active => if conditionClears e k t then ⟨.quiet, 0⟩ else c

/-- A condition while frozen (R15): it keeps its state; a PENDING timer stands at 0 under the bypass (R16). -/
def holdCondition (held : Bool) (c : Condition) : Condition :=
  if held && c.state == .pending then ⟨.pending, 0⟩ else c

/-- One condition of a zone after its evaluation. -/
def evaluated (s : State) (z : ZoneId) (k : ConditionKind) : Condition :=
  let c := (s.zones.get z).condition k
  let held := conditionBypassed s z k
  if conditionsFrozen s z then holdCondition held c
  else match (s.zones.get z).air.filtered with
    | none => holdCondition held c
    | some t => judgeCondition (zoneEntry s z) k held t c

/-- Evaluate one condition: an exit from ACTIVE clears its alarm and posts ZONE CHANGE (R14, R17). -/
def evalCondition (z : ZoneId) (k : ConditionKind) (s : State) : State :=
  let c := (s.zones.get z).condition k
  let c' := evaluated s z k
  let t := s.putZone z ((s.zones.get z).withCondition k c')
  if c.state == .active && c'.state != .active then post .zoneChange (clear (conditionAlarm k) (.zone z) t) else t

/-- Evaluate a used zone's three conditions (R13). -/
def evalConditions (z : ZoneId) (s : State) : State :=
  if zoneUsed s z then evalCondition z .low (evalCondition z .high (evalCondition z .highWarn s)) else s

/-- A condition's delay timer runs: PENDING, not frozen and not held by the bypass (R13, R15, R16). -/
def conditionTimerRuns (s : State) (z : ZoneId) (k : ConditionKind) : Bool :=
  ((s.zones.get z).condition k).state == .pending && !conditionsFrozen s z && !conditionBypassed s z k

/-- The delay timer reaches the zone's alarm delay: the condition enters ACTIVE, its alarm is raised, ZONE CHANGE is posted (R13, R17). -/
def conditionExpires (z : ZoneId) (k : ConditionKind) (s : State) : State :=
  if conditionTimerRuns s z k then
    post .zoneChange (raise (conditionAlarm k) (.zone z)
      (s.putZone z ((s.zones.get z).withCondition k ⟨.active, (zoneEntry s z).alarmDelay⟩)))
  else s

/-- CONDITION_TIMER_EXPIRY (R13). -/
def execConditionTimerExpiry (z : ZoneId) (k : ConditionKind) (s : State) : StepResult :=
  whenRunning (conditionExpires z k) s

end Sys2Proof.Machine
end

