-- ==== Sys2Proof/Machine/Grants.lean ====
section
/-! DEFINITION. The two decisions that read both the doors and the defrost units: the queue service of R113 with a door's entry to
OPEN (R105), and the grant judgment of R140 with the grant (R141). `settle` makes both after an event; the service comes first, as
R142, R145 and the worked sequence of section 5.7 set them (notes/assumptions/4.md). -/

namespace Sys2Proof.Machine

/-- Hand a door's permit to the permit set, or withdraw it (R105, R125). -/
def setPermit (d : DoorId) (b : Bool) (s : State) : State :=
  s.putStation d { s.loop.stations.get d with permit := b }

/-- Clear a standing DOOR FORCED condition with its flag (R99). -/
def endForced (d : DoorId) (s : State) : State :=
  if (s.doors.get d).forced then clear .doorForced (.door d) (s.modDoor d fun r => { r with forced := false }) else s

/-- A door enters OPEN (R105). -/
def openEntry (d : DoorId) (s : State) : State :=
  let seen := match (s.doors.get d).view.position with
    | some .moving => true
    | some .opened => true
    | _ => false
  let t := endForced d s
  post .doorChange (setPermit d true (t.modDoor d fun r =>
    { r with state := .opened, openedAt := some s.clock, openTimer := .start, openingSeen := seen }))

/-- Serve the head of a zone's wait queue while the zone allows an open (R113); `fuel` bounds the heads served. -/
def serviceZone (z : ZoneId) : Nat → State → State
  | 0, s => s
  | fuel + 1, s =>
      match s.waits.get z with
      | [] => s
      | d :: rest =>
          if allowsOpen s z then serviceZone z fuel (post .openGranted (openEntry d (s.putWait z rest))) else s

/-- The queue service of one zone. -/
def service (z : ZoneId) (s : State) : State := serviceZone z (s.waits.get z).length s

def serviceAll (s : State) : State := forEach allZones service s

/-- End a standing DEFROST DEFERRED (R137). -/
def endDeferred (z : ZoneId) (s : State) : State :=
  if (s.units.get z).deferred then clear .defrostDeferred (.zone z) (s.modUnit z fun u => { u with deferred := false }) else s

/-- The unit leaves REQUESTED: its zone leaves the queue, the urgent flag clears, the deferral timer stops with its count, and a
standing DEFROST DEFERRED ends (R133, R134, R137). -/
def leaveRequested (z : ZoneId) (s : State) : State :=
  endDeferred z ((s.setDefrostQueue (s.defrostQueue.filter fun y => y != z)).modUnit z fun u =>
    { u with urgent := false, deferral := u.deferral.stop })

/-- The grant (R141). -/
def grantDefrost (z : ZoneId) (s : State) : State :=
  post .defrostGranted ((leaveRequested z s).modUnit z fun u => { u with state := .pumpdown, phase := .start })

/-- Grant the first zone in queue order that passes its gates, and judge again (R140); `fuel` bounds the grants. -/
def grantLoop : Nat → State → State
  | 0, s => s
  | fuel + 1, s =>
      match s.defrostQueue.find? (gatesPass s) with
      | none => s
      | some z => grantLoop fuel (grantDefrost z s)

/-- The grant judgment (R140). -/
def grantJudgment (s : State) : State := grantLoop s.defrostQueue.length s

/-- The queue service of every zone, then the grant judgment: nothing that may be served or granted is left waiting (R113, R140). The alarms
they clear come after those of the event itself (DESIGN CHOICE, notes/assumptions/31.md). -/
def settle (s : State) : State := grantJudgment (serviceAll s)

end Sys2Proof.Machine
end

