-- ==== Sys2Proof/Machine/Doors.lean ====
section
/-! DEFINITION. The Door Supervisor (chapter 5): a station report taken in its five steps (R89 to R99), the seal, loss and open timers'
expiries (R91, R92, R100), station loss and derivation (R101, R102), and the door party's requests (R103 to R108). -/

namespace Sys2Proof.Machine

/-! ## Shared effects -/

/-- A change of a door's record that posts DOOR CHANGE (R87). -/
def changeDoor (d : DoorId) (f : DoorRecord → DoorRecord) (s : State) : State := post .doorChange (s.modDoor d f)

/-- Entry to DOCKED, from whatever state: the DOCKED stamp is taken, over the one that stood (R87). -/
def DoorRecord.docked (now : Nat) (r : DoorRecord) : DoorRecord := { r with state := .docked, dockedAt := some now }

/-- A door leaves its zone's wait queue from its position (R112). -/
def leaveWait (d : DoorId) (s : State) : State :=
  s.putWait (doorZone s d) ((s.waits.get (doorZone s d)).filter fun e => e != d)

/-- A standing DOOR OPEN LONG ends (R100). -/
def endOpenLong (d : DoorId) (s : State) : State :=
  if (s.doors.get d).openLong then clear .doorOpenLong (.door d) (s.modDoor d fun r => { r with openLong := false }) else s

/-- A standing DOOR BREACH ends: it stands exactly while the door is in BREACH (R95). -/
def endBreach (d : DoorId) (s : State) : State :=
  if doorState s d = .breach then clear .doorBreach (.door d) s else s

/-- The open timer stops with DOOR OPEN LONG, and the permit is withdrawn: any departure from OPEN (R100, R105). -/
def leaveOpen (d : DoorId) (s : State) : State :=
  setPermit d false ((endOpenLong d s).modDoor d fun r => { r with openTimer := r.openTimer.stop })

/-- RELEASE READY is posted for a SEALED door with an assignment that has no pallets aboard and an empty manifest (R108). -/
def judgeReleaseReady (d : DoorId) (s : State) : State :=
  postIf (doorState s d == .sealed && (s.doors.get d).assignment.isSome && aboard s d + manifestSize s d == 0) .releaseReady s

/-- Every pallet aboard becomes UNRESOLVED (R59). -/
def unresolveAboard (d : DoorId) (s : State) : State := unresolveWhere (fun p => p.isAt (.trailer d)) s

/-- Entry to BREACH (R94): DOOR OPEN LONG is cleared before DOOR BREACH is raised (DESIGN CHOICE, notes/assumptions/31.md). -/
def enterBreach (d : DoorId) (cause : BreachCause) (s : State) : State :=
  raise .doorBreach (.door d) (changeDoor d (fun r =>
    { r with state := .breach, breachCause := some cause, openingSeen := false, lossTimer := r.lossTimer.stop })
    (leaveOpen d s))

/-- SEALED returns to DOCKED (R93), which takes the DOCKED stamp (R87). -/
def loseSeal (d : DoorId) (s : State) : State :=
  changeDoor d (fun r => { r.docked s.clock with lossTimer := r.lossTimer.stop }) (leaveWait d s)

/-- The loss delay timer expires: the seal is lost (R92, R93, R94). -/
def sealExpires (d : DoorId) (s : State) : State :=
  match doorState s d with
  | .sealed => loseSeal d s
  | .opened => enterBreach d .seal s
  | .closing => enterBreach d .seal s
  | _ => s

/-- The seal delay timer reaches the seal delay: SEALING becomes SEALED (R91); the loss delay starts with a pressure already reported
below the loss threshold (R92). The threshold is the one in the working copy at this entry, also where an edit has raised it since the last
report (DESIGN CHOICE, notes/assumptions/32.md). -/
def becomeSealed (d : DoorId) (s : State) : State :=
  let low := match (s.doors.get d).view.pressure with
    | some p => decide (p < lossThreshold (doorEntry s d))
    | none => false
  changeDoor d (fun r => { r with state := .sealed, sealedAt := some s.clock, sealTimer := r.sealTimer.stop,
                                  lossTimer := if low then .start else r.lossTimer }) s

/-- Passage from OPEN or CLOSING to SEALED (R96). -/
def shutDoor (d : DoorId) (s : State) : State :=
  judgeReleaseReady d (changeDoor d (fun r => { r with state := .sealed, sealedAt := some s.clock, openingSeen := false })
    (leaveOpen d s))

/-- Presence off without release: the trailer has left (R97). What ends at the door is cleared before TRAILER LEFT is raised (DESIGN
CHOICE, notes/assumptions/31.md). -/
def trailerLeft (d : DoorId) (s : State) : State :=
  unresolveAboard d (raise .trailerLeft (.door d) (changeDoor d (fun r =>
    { r with state := .vacant, assignment := none, sealTimer := r.sealTimer.stop, lossTimer := r.lossTimer.stop })
    (endBreach d (leaveWait d (leaveOpen d s)))))

/-! ## A report's steps (R89) -/

/-- Step 1: the station view takes the report's four values, and its stale flag is cleared. -/
def takeView (d : DoorId) (r : Report) (s : State) : State :=
  s.modDoor d fun x => { x with view := ⟨some r.presence, some r.restraint, some r.position, some r.pressure, false⟩ }

/-- Step 2: presence (R90, R97, R98). -/
def judgePresence (d : DoorId) (r : Report) (s : State) : State :=
  match doorState s d with
  | .vacant => if r.presence then changeDoor d (DoorRecord.docked s.clock) s else s
  | .released => if r.presence then s else changeDoor d (fun x => { x with state := .vacant, assignment := none }) s
  | .docked => if r.presence then s else trailerLeft d s
  | .sealing => if r.presence then s else trailerLeft d s
  | .sealed => if r.presence then s else trailerLeft d s
  | .opened => if r.presence then s else trailerLeft d s
  | .closing => if r.presence then s else trailerLeft d s
  | .breach => if r.presence then s else trailerLeft d s
  | .disabled => s
  | .lost => s

/-- Restraint engaged and the pressure at or above the seal threshold (R90, R91). -/
def sealHolds (s : State) (d : DoorId) (r : Report) : Bool := r.restraint && (doorEntry s d).sealThreshold ≤ r.pressure

/-- The loss delay timer starts below the loss threshold and is stopped at or above it (R92). -/
def filterPressure (d : DoorId) (r : Report) (s : State) : State :=
  s.modDoor d fun x =>
    if r.pressure < lossThreshold (doorEntry s d) then
      (if x.lossTimer.running then x else { x with lossTimer := .start })
    else { x with lossTimer := x.lossTimer.stop }

/-- Step 3: restraint and seal pressure (R90 to R94); a return from SEALING to DOCKED takes the DOCKED stamp (R87). -/
def judgeSeal (d : DoorId) (r : Report) (s : State) : State :=
  match doorState s d with
  | .docked => if sealHolds s d r then changeDoor d (fun x => { x with state := .sealing, sealTimer := .start }) s else s
  | .sealing =>
      if sealHolds s d r then s else changeDoor d (fun x => { x.docked s.clock with sealTimer := x.sealTimer.stop }) s
  | .sealed => if r.restraint then filterPressure d r s else loseSeal d s
  | .opened => if r.restraint then filterPressure d r s else enterBreach d .restraint s
  | .closing => if r.restraint then filterPressure d r s else enterBreach d .restraint s
  | _ => s

/-- Step 4: position (R95, R96); a return from BREACH to DOCKED takes the DOCKED stamp (R87). -/
def judgePosition (d : DoorId) (r : Report) (s : State) : State :=
  match doorState s d with
  | .breach =>
      if r.position = .closed then changeDoor d (DoorRecord.docked s.clock) (endBreach d s) else s
  | .opened =>
      if r.position = .closed then (if (s.doors.get d).openingSeen then shutDoor d s else s)
      else s.modDoor d fun x => { x with openingSeen := true }
  | .closing => if r.position = .closed then shutDoor d s else s
  | _ => s

/-- The states in which a leaf that is not closed is forced (R99). -/
def DoorState.forbidsOpenLeaf : DoorState → Bool
  | .vacant | .docked | .sealing | .sealed | .breach | .released => true
  | _ => false

/-- Step 5: the forced-open flag (R99), with DOOR FORCED and DOOR CHANGE at each change. -/
def judgeForced (d : DoorId) (r : Report) (s : State) : State :=
  if r.position = .closed then
    if (s.doors.get d).forced then post .doorChange (endForced d s) else s
  else if (doorState s d).forbidsOpenLeaf && !(s.doors.get d).forced then
    raise .doorForced (.door d) (changeDoor d (fun x => { x with forced := true }) s)
  else s

/-- TRAILER LEFT is raised for a derivation to VACANT where the loss origin had a trailer, or where there was no origin and an
assignment was held (R102). -/
def derivedTrailerLeft (x : DoorRecord) : Bool :=
  match x.lossOrigin with
  | some st => st.hasTrailer
  | none => x.assignment.isSome

/-- The first report for a LOST door (R102). A derivation to VACANT with the leaf up raises TRAILER LEFT before DOOR FORCED (DESIGN CHOICE,
notes/assumptions/31.md). -/
def deriveDoor (d : DoorId) (r : Report) (s : State) : State :=
  let t := takeView d r s
  if r.presence then
    judgeForced d r (judgePosition d r (judgeSeal d r
      (changeDoor d (fun x => { x.docked s.clock with lossOrigin := none }) t)))
  else
    let left := derivedTrailerLeft (s.doors.get d)
    let u := unresolveAboard d (changeDoor d (fun x => { x with state := .vacant, assignment := none, lossOrigin := none }) t)
    judgeForced d r (if left then raise .trailerLeft (.door d) u else u)

/-- A report at a door (R89): discarded when DISABLED, derived when LOST, else the five steps. -/
def takeReport (d : DoorId) (r : Report) (s : State) : State :=
  match doorState s d with
  | .disabled => s
  | .lost => deriveDoor d r s
  | _ => judgeForced d r (judgePosition d r (judgeSeal d r (judgePresence d r (takeView d r s))))

/-! ## Loss of a station (R101) -/

/-- The station view keeps its last values, marked stale (R101, R127). -/
def DoorRecord.staled (x : DoorRecord) : DoorRecord := { x with view := { x.view with stale := true } }

/-- On entry to LOST: the loss origin, the opening-seen flag, the timers and the station view (R101). -/
def DoorRecord.losing (origin : Option DoorState) (x : DoorRecord) : DoorRecord :=
  { x.staled with
    state := .lost, lossOrigin := origin, openingSeen := false, sealTimer := x.sealTimer.stop, lossTimer := x.lossTimer.stop }

/-- A door in any state but DISABLED and LOST enters LOST. -/
def loseDoor (d : DoorId) (s : State) : State :=
  if doorState s d = .disabled ∨ doorState s d = .lost then s
  else
    changeDoor d (fun x => x.losing (some x.state)) (endBreach d (leaveWait d (leaveOpen d s)))

/-! ## Timer expiries -/

/-- SEAL_DELAY_EXPIRY (R91): the expiry exists only while the door is in SEALING with its timer running. -/
def sealDelayExpires (d : DoorId) (s : State) : State :=
  if doorState s d = .sealing ∧ (s.doors.get d).sealTimer.running then
    becomeSealed d (s.modDoor d fun r => { r with sealTimer := ⟨true, (doorEntry s d).sealDelay⟩ })
  else s

def execSealDelayExpiry (d : DoorId) (s : State) : StepResult := whenRunning (fun s => settle (sealDelayExpires d s)) s

/-- LOSS_DELAY_EXPIRY (R92): the expiry exists only while the loss delay timer runs. -/
def lossDelayExpires (d : DoorId) (s : State) : State :=
  if (s.doors.get d).lossTimer.running then
    sealExpires d (s.modDoor d fun r => { r with lossTimer := ⟨true, (doorEntry s d).lossDelay⟩ })
  else s

def execLossDelayExpiry (d : DoorId) (s : State) : StepResult := whenRunning (fun s => settle (lossDelayExpires d s)) s

/-- The DOOR OPEN LONG condition begins (R100). -/
def beginOpenLong (d : DoorId) (s : State) : State :=
  raise .doorOpenLong (.door d) (s.modDoor d fun r => { r with openLong := true })

/-- OPEN_LONG_EXPIRY (R100): the open timer runs on. -/
def openLongExpires (d : DoorId) (s : State) : State :=
  let r := s.doors.get d
  if r.state = .opened ∧ r.openTimer.running ∧ !r.openLong then
    beginOpenLong d (s.modDoor d fun r =>
      { r with openTimer := ⟨true, max r.openTimer.count (60 * (doorEntry s d).maxOpenTime)⟩ })
  else s

def execOpenLongExpiry (d : DoorId) (s : State) : StepResult := whenRunning (openLongExpires d) s

/-! ## The door party's requests -/

/-- TRAILER ASSIGN (R103). -/
def trailerAssignBody (door trailer direction : Nat) (s : State) : Served :=
  match door? door, direction? direction with
  | some d, some dir =>
      if trailer = 0 then refuse .param s
      else
        let r := s.doors.get d
        if !(r.state == .docked || r.state == .sealing || r.state == .sealed) then refuse .state s
        else if aboard s d + manifestSize s d ≠ 0 then refuse .pending s
        else if r.assignment = some ⟨trailer, dir⟩ then answer .ok [] s
        else answer .ok [] (changeDoor d (fun r => { r with assignment := some ⟨trailer, dir⟩ }) s)
  | _, _ => refuse .param s

def execTrailerAssign (p : Port) (door trailer direction : Nat) (s : State) : StepResult :=
  serve p .trailerAssign (trailerAssignBody door trailer direction) s

/-- A door joins the tail of its zone's wait queue (R104). -/
def joinWait (d : DoorId) (s : State) : State := s.putWait (doorZone s d) (s.waits.get (doorZone s d) ++ [d])

/-- DOOR OPEN (R104). A door queued while the zone allows an open is served by the queue service at once (R113). -/
def doorOpenBody (door : Nat) (s : State) : Served :=
  match door? door with
  | none => refuse .param s
  | some d =>
      if !(doorState s d == .sealed && (s.doors.get d).assignment.isSome) then refuse .state s
      else if inWaitQueue s d then refuse .duplicate s
      else if allowsOpen s (doorZone s d) && (s.waits.get (doorZone s d)).isEmpty then answer .ok [] (openEntry d s)
      else answer .queued [] (settle (joinWait d s))

def execDoorOpen (p : Port) (door : Nat) (s : State) : StepResult := serve p .doorOpen (doorOpenBody door) s

/-- DOOR CLOSE (R106). -/
def doorCloseBody (door : Nat) (s : State) : Served :=
  match door? door with
  | none => refuse .param s
  | some d =>
      if doorState s d = .opened then
        answer .ok [] (changeDoor d (fun r => { r with state := .closing }) (leaveOpen d s))
      else if doorState s d = .sealed ∧ inWaitQueue s d then answer .ok [] (leaveWait d s)
      else refuse .state s

def execDoorClose (p : Port) (door : Nat) (s : State) : StepResult := serve p .doorClose (doorCloseBody door) s

/-- TRAILER RELEASE (R107). The loss delay timer is stopped: RELEASED lies outside SEALED, OPEN and CLOSING (R92). -/
def trailerReleaseBody (door : Nat) (s : State) : Served :=
  match door? door with
  | none => refuse .param s
  | some d =>
      if doorState s d ≠ .sealed then refuse .state s
      else if aboard s d + manifestSize s d + transitsTouching s d ≠ 0 then refuse .pending s
      else answer .ok [] (changeDoor d (fun r =>
        { r with state := .released, releasedAt := some s.clock, lossTimer := r.lossTimer.stop }) (leaveWait d s))

def execTrailerRelease (p : Port) (door : Nat) (s : State) : StepResult := serve p .trailerRelease (trailerReleaseBody door) s

/-! ## Reading a door (R118) -/

/-- The door's place in a queue, counted from 1. -/
def queuePosition {α : Type} [BEq α] (q : List α) (x : α) : Option Nat :=
  if q.contains x then some (q.idxOf x + 1) else none

/-- DOOR READ's payload, in the order of R118's table; the queue position takes 1 byte, and none is R188's absent
item, not a code of its own, also where R87 lists it last (R188; DEDUCED, notes/assumptions/7.md). -/
def doorReadBytes (s : State) (d : DoorId) : List Byte :=
  let r := s.doors.get d
  let z := doorZone s d
  let v := r.view
  u8 r.state.code ++
  optBytes 1 (if r.state = .lost then r.lossOrigin.map fun st => u8 st.code else none) ++
  optBytes 1 (v.presence.map fun b => u8 (if b then 0 else 1)) ++
  optBytes 1 (v.restraint.map fun b => u8 (if b then 0 else 1)) ++
  optBytes 1 (v.position.map fun x => u8 x.code) ++
  optBytes 2 (v.pressure.map u16) ++
  flagBytes v.stale ++
  optBytes 5 (r.assignment.map fun a => u32 a.trailer ++ u8 a.direction.code) ++
  flagBytes r.forced ++ flagBytes r.openingSeen ++ flagBytes (s.loop.stations.get d).permit ++
  optBytes 1 (r.breachCause.map fun c => u8 c.code) ++
  optBytes 4 (r.dockedAt.map u32) ++ optBytes 4 (r.sealedAt.map u32) ++
  optBytes 4 (r.openedAt.map u32) ++ optBytes 4 (r.releasedAt.map u32) ++
  timerBytes r.openTimer ++ timerBytes r.sealTimer ++ timerBytes r.lossTimer ++
  u16 (aboard s d) ++ u16 (manifestSize s d) ++ u16 (transitsTouching s d) ++
  optBytes 1 ((queuePosition (s.waits.get z) d).map u8) ++
  u8 (z.val + 1) ++ u16 (openCount s z) ++ u16 (limitInForce s z) ++ u16 (forcedCount s z) ++
  u8 (s.waits.get z).length ++ (s.waits.get z).flatMap fun e => u8 (e.val + 1)

def doorReadBody (door : Nat) (s : State) : Served :=
  match door? door with
  | none => refuse .param s
  | some d => answer .ok (doorReadBytes s d) s

def execDoorRead (p : Port) (door : Nat) (s : State) : StepResult := serve p .doorRead (doorReadBody door) s

end Sys2Proof.Machine
end

