-- ==== Sys2Proof/Machine/Loop.lean ====
section
/-! DEFINITION. The Door Loop Master (chapter 6): its frames and the judging of replies (R188, R123, R126), the addressing run (R123,
R124), the polling round (R125, R126), loss (R127), re-addressing (R128, R129), the STATION LOST condition and the break index (R130),
and LOOP RESTART (R131). -/

namespace Sys2Proof.Machine

/-! ## Frames (R188) -/

/-- A frame on the pair: its bytes, then the CRC over them (R120). -/
def loopFrame (bs : List Byte) : List Byte := bs ++ [crc8 bs]

/-- ASSIGN, sent to address 0 with the new address. -/
def assignFrame (k : DoorId) : List Byte := loopFrame [0, BitVec.ofNat 8 (0x40 + (k.val + 1))]

/-- POLL, sent to the station's address with its permit bit. -/
def pollFrame (k : DoorId) (permit : Bool) : List Byte :=
  loopFrame [BitVec.ofNat 8 (k.val + 1), if permit then 0x81 else 0x80]

/-- UNASSIGN, sent to the broadcast address 31. -/
def unassignFrame : List Byte := loopFrame [31, 0xC0]

/-! ## Replies -/

/-- A position field: 0 CLOSED, 1 MOVING, 2 OPEN; 3 is undefined (R188). -/
def position? (b : Byte) : Option Position :=
  match b.getLsbD 5, b.getLsbD 4 with
  | false, false => some .closed
  | false, true => some .moving
  | true, false => some .opened
  | true, true => none

/-- A good reply from station `k`: the CRC checks, the address is k, and every field holds a defined value (R123). A pressure above
4000 is taken as 4000 (R126). The second component is the reset bit. A reply of more or fewer than 5 bytes, also of none, is not good
(DESIGN CHOICE, notes/assumptions/29.md). -/
def goodReply (k : DoorId) (bs : List Byte) : Option (Report × Bool) :=
  match bs with
  | [a, f, h, l, c] =>
      if c = crc8 [a, f, h, l] ∧ a.toNat = k.val + 1 ∧ f &&& 0x0E = 0 then
        (position? f).map fun p => (⟨f.getLsbD 7, f.getLsbD 6, p, min 4000 (rd16 h l)⟩, f.getLsbD 0)
      else none
  | _ => none

/-- How a reply window ended. Whatever came within the window and is not good is `notGood`, and `silence` is that nothing came; which of
the two a reply of a wrong length is, the manual leaves open (DESIGN CHOICE, notes/assumptions/29.md). -/
inductive Reply where
  | good (r : Report) (reset : Bool)
  | notGood
  | silence
  deriving DecidableEq, Repr

def judgeReply (k : DoorId) : Option (List Byte) → Reply
  | none => .silence
  | some bs =>
      match goodReply k bs with
      | some (r, b) => .good r b
      | none => .notGood

/-! ## The station table -/

def stationOf (s : State) (k : DoorId) : Station := s.loop.stations.get k

/-- Put frames on the pair and open (or close) the reply window. -/
def sendLoop (frames : List (List Byte)) (w : LoopWindow) (s : State) : State :=
  s.setLoop { s.loop with sent := frames, window := w }

/-- Close the reply window. -/
def closeWindow (s : State) : State := s.setLoop { s.loop with window := .idle, sent := [] }

/-- STATION LOST stands for index k (R130). -/
def stationLostHolds (s : State) (k : DoorId) : Bool :=
  match (stationOf s k).state with
  | .lost => true
  | .notFound => inService s k
  | .ok => false

/-- Judge the STATION LOST condition of an index: during an addressing run it keeps its value (R130). -/
def judgeStationLost (k : DoorId) (s : State) : State :=
  let e := stationOf s k
  let h := stationLostHolds s k
  if s.loop.mode = .addressing ∨ h = e.lostAlarm then s
  else
    let t := s.putStation k { e with lostAlarm := h }
    if h then raise .stationLost (.door k) t else clear .stationLost (.door k) t

/-- Move the break index; each change posts LOOP CHANGE (R130). -/
def setBreak (b : Option DoorId) (s : State) : State :=
  if s.loop.breakIndex = b then s else post .loopChange (s.setLoop { s.loop with breakIndex := b })

/-- Re-addressing is called for (R128). -/
def readdressCalled (s : State) : Bool := allDoors.any (stationLostHolds s)

/-- The open window once an attempt under way has ended (R129). It stays open, and holds the pair (R125), until it closes. -/
def LoopWindow.endAttempt : LoopWindow → LoopWindow
  | .rePoll _ => .ended
  | .reAssign _ => .ended
  | w => w

/-- Make re-addressing active or inactive as R128 says, outside an addressing run. Becoming active starts the 2 s timer; becoming
inactive stops it, at count 0 (DESIGN CHOICE, notes/assumptions/30.md), takes the break index away (R130) and ends an attempt under way
(R129). -/
def judgeReaddressing (s : State) : State :=
  if s.loop.mode = .addressing then s
  else if readdressCalled s then
    if s.loop.readdressing then s else s.setLoop { s.loop with readdressing := true, attemptTimer := 0 }
  else setBreak none (s.setLoop { s.loop with readdressing := false, attemptTimer := 0, window := s.loop.window.endAttempt })

/-- After an edit that may change which doors are in service (R128, R130), by rising index (DESIGN CHOICE, notes/assumptions/9.md). -/
def judgeLoopEdit (s : State) : State := judgeReaddressing (forEach allDoors judgeStationLost s)

/-! ## The addressing run (R123, R124) -/

/-- Step 5 of R123 and the first ASSIGN. -/
def beginNaming (s : State) : State := sendLoop [unassignFrame, assignFrame 0] (.assign 0) s

/-- An addressing run begins (R123). While a reply window is open the part sends no other frame (R125), so the UNASSIGN then waits
for the window to close (DESIGN CHOICE, notes/assumptions/15.md). Re-addressing becomes inactive, and its attempt timer stops at count 0
(DESIGN CHOICE, notes/assumptions/30.md). -/
def beginRun (s : State) : State :=
  let t := s.setLoop { s.loop with
    mode := .addressing, readdressing := false, attemptTimer := 0, breakIndex := none, sent := [],
    stations := s.loop.stations.map fun e => { e with state := .notFound, misses := 0 } }
  let u := post .loopChange (forEach allDoors loseDoor t)
  if u.loop.window = .idle then beginNaming u else u

/-- The Door Supervisor is told which in-service doors have no station found (R124). The door is LOST and stays so (R101), and its station
view is marked stale, as R130 has DOOR READ show it (DEDUCED, notes/assumptions/28.md). -/
def loseUnfound (k : DoorId) (s : State) : State :=
  if (stationOf s k).state = .notFound ∧ inService s k then (loseDoor k s).modDoor k DoorRecord.staled else s

/-- The first index that is not OK. -/
def firstNotOk (s : State) : Option DoorId := allDoors.find? fun k => (stationOf s k).state != .ok

/-- The run ends (R124): the first attempt of re-addressing falls 2 s later, and the break index is the first index not found. The STATION
LOST conditions are judged by rising index (DESIGN CHOICE, notes/assumptions/9.md). Where re-addressing stays inactive, its stopped timer
holds count 0 (DESIGN CHOICE, notes/assumptions/30.md). -/
def endRun (s : State) : State :=
  let t := forEach allDoors loseUnfound s
  let u := forEach allDoors judgeStationLost
    (t.setLoop { t.loop with mode := .polling, window := .idle, sent := [], lastPolled := none })
  let active := readdressCalled u
  let v := u.setLoop { u.loop with readdressing := active, attemptTimer := 0 }
  settle (post .loopChange (setBreak (if active then firstNotOk v else none) v))

/-- The next index. -/
def nextIndex (k : DoorId) : Option DoorId := numbered 24 (k.val + 2)

/-- Entry k is found: it becomes OK with miss count 0, and its report reaches the Door Supervisor. -/
def foundStation (k : DoorId) (r : Report) (s : State) : State :=
  takeReport k r (s.putStation k { stationOf s k with state := .ok, misses := 0 })

/-- Index k is judged OK in a run: on to the next index, or the end after index 24 (R123), whose STATION LOST conditions are judged after
the report (DESIGN CHOICE, notes/assumptions/31.md). -/
def runFound (k : DoorId) (r : Report) (s : State) : State :=
  let t := foundStation k r s
  match nextIndex k with
  | some j => settle (sendLoop [assignFrame j] (.assign j) t)
  | none => endRun t

/-- The window after an ASSIGN of the run closes. The reset bit of a reply to ASSIGN is not judged (R123). -/
def judgeAssign (k : DoorId) (reply : Reply) (s : State) : State :=
  match reply with
  | .good r _ => runFound k r s
  | .notGood => sendLoop [pollFrame k false] (.fallback k) s
  | .silence => endRun s

/-- The window after the run's fallback POLL closes (R123). -/
def judgeFallback (k : DoorId) (reply : Reply) (s : State) : State :=
  match reply with
  | .good r false => runFound k r s
  | .good _ true => endRun s
  | .notGood => endRun s
  | .silence => endRun s

def addressingWindowCloses (reply : Option (List Byte)) (s : State) : State :=
  match s.loop.window with
  | .assign k => judgeAssign k (judgeReply k reply) s
  | .fallback k => judgeFallback k (judgeReply k reply) s
  | _ => s

/-- ADDRESSING_REPLY_WINDOW (R123). -/
def execAddressingReplyWindow (reply : Option (List Byte)) (s : State) : StepResult :=
  whenRunning (addressingWindowCloses reply) s

/-! ## Polling (R125, R126, R127) -/

/-- The OK entry the round polls next: the lowest above the one last polled, or else the lowest of all (R125). -/
def nextToPoll (s : State) : Option DoorId :=
  let oks := allDoors.filter fun k => (stationOf s k).state == .ok
  match s.loop.lastPolled with
  | none => oks.head?
  | some j => (oks.find? fun k => j.val < k.val).or oks.head?

/-- The next POLL of the round, where the pair is free. -/
def sendPoll (s : State) : State :=
  if s.loop.mode = .polling ∧ s.loop.window = .idle then
    match nextToPoll s with
    | some k =>
        s.setLoop { s.loop with sent := [pollFrame k (stationOf s k).permit], window := .poll k, lastPolled := some k }
    | none => s
  else s

/-- LOOP_POLL_SEND (R125). -/
def execLoopPollSend (s : State) : StepResult := whenRunning sendPoll s

/-- An OK station is lost (R127). What ends at its door is cleared before STATION LOST is raised (DESIGN CHOICE,
notes/assumptions/31.md). -/
def loseStation (k : DoorId) (s : State) : State :=
  let t := loseDoor k (s.putStation k { stationOf s k with state := .lost, misses := 3 })
  settle (post .loopChange (judgeReaddressing (judgeStationLost k t)))

/-- A miss of an OK station (R126). -/
def missStation (k : DoorId) (s : State) : State :=
  let e := stationOf s k
  if 3 ≤ e.misses + 1 then loseStation k s else s.putStation k { e with misses := e.misses + 1 }

/-- A reply to a POLL of an OK station is judged (R126). -/
def judgePoll (k : DoorId) (reply : Reply) (s : State) : State :=
  match reply with
  | .good r false => settle (takeReport k r (s.putStation k { stationOf s k with misses := 0 }))
  | .good _ true => loseStation k s
  | .notGood => missStation k s
  | .silence => missStation k s

def pollWindowCloses (reply : Option (List Byte)) (s : State) : State :=
  match s.loop.window with
  | .poll k =>
      if s.loop.mode = .addressing then beginNaming s
      else if (stationOf s k).state = .ok then judgePoll k (judgeReply k reply) (closeWindow s)
      else closeWindow s
  | _ => s

/-- POLL_REPLY_WINDOW_CLOSE (R126). -/
def execPollReplyWindowClose (reply : Option (List Byte)) (s : State) : StepResult :=
  whenRunning (pollWindowCloses reply) s

/-! ## Re-addressing (R128, R129) -/

/-- Step 1 of R129 for the next target: the lowest index that is LOST or NOT FOUND (R128). -/
def pollTarget (s : State) : State :=
  match firstNotOk s with
  | some k => sendLoop [pollFrame k false] (.rePoll k) s
  | none => closeWindow s

/-- An attempt begins where re-addressing is active and the pair is free; the 2 s run again. -/
def beginAttempt (s : State) : State :=
  if s.loop.mode = .polling ∧ s.loop.readdressing ∧ s.loop.window = .idle then
    pollTarget (s.setLoop { s.loop with attemptTimer := 0 })
  else s

/-- READDRESS_ATTEMPT (R129). -/
def execReaddressAttempt (s : State) : StepResult := whenRunning beginAttempt s

/-- The attempt ends at its target k, which becomes the break index (R129, R130). -/
def endAttempt (k : DoorId) (s : State) : State := setBreak (some k) (closeWindow s)

/-- Entry k becomes OK in an attempt, which then takes its next target while re-addressing stays active (R129). The next frame is sent in
this same event, so no POLL of the round falls within an attempt (DESIGN CHOICE, notes/assumptions/15.md). The report is taken before
STATION LOST is cleared (DESIGN CHOICE, notes/assumptions/31.md). -/
def reFound (k : DoorId) (r : Report) (s : State) : State :=
  let t := judgeReaddressing (post .loopChange (judgeStationLost k (foundStation k r s)))
  settle (if t.loop.readdressing then pollTarget t else closeWindow t)

/-- The window of step 1 closes (R129). -/
def judgeRePoll (k : DoorId) (reply : Reply) (s : State) : State :=
  match reply with
  | .good r false => reFound k r s
  | .good _ true => sendLoop [assignFrame k] (.reAssign k) s
  | .silence => sendLoop [assignFrame k] (.reAssign k) s
  | .notGood => endAttempt k s

/-- The window of step 2 closes (R129). -/
def judgeReAssign (k : DoorId) (reply : Reply) (s : State) : State :=
  match reply with
  | .good r _ => reFound k r s
  | .notGood => endAttempt k s
  | .silence => endAttempt k s

/-- A reply window of an attempt closes. The reply counts unless the attempt has ended before it, as it does where re-addressing becomes
inactive (R129), also where re-addressing is active again by now: that attempt is over, and the next falls 2 s after (R128). -/
def readdressWindowCloses (reply : Option (List Byte)) (s : State) : State :=
  match s.loop.window with
  | .rePoll k =>
      if s.loop.mode = .addressing then beginNaming s else judgeRePoll k (judgeReply k reply) s
  | .reAssign k =>
      if s.loop.mode = .addressing then beginNaming s else judgeReAssign k (judgeReply k reply) s
  | .ended => if s.loop.mode = .addressing then beginNaming s else closeWindow s
  | _ => s

/-- READDRESS_REPLY_WINDOW (R129). -/
def execReaddressReplyWindow (reply : Option (List Byte)) (s : State) : StepResult :=
  whenRunning (readdressWindowCloses reply) s

/-! ## LOOP RESTART (R131) -/

def loopRestartBody (s : State) : Served :=
  if allDoors.any fun d => (doorState s d).countsOpen then refuse .state s
  else if s.loop.mode ≠ .polling then refuse .state s
  else answer .ok [] (beginRun s)

def execLoopRestart (p : Port) (s : State) : StepResult := serve p .loopRestart loopRestartBody s

end Sys2Proof.Machine
end

