-- ==== Sys2Proof/Machine/Defrost.lean ====
section
/-! DEFINITION. The Defrost Coordinator (chapter 7): requests and deferral (R136, R137), the phases with their tests and time limits
(R142 to R146), abort and plant silence (R148, R149), and DEFROST READ (R154). Gates and grants stand in Machine/Flags.lean and
Machine/Grants.lean. -/

namespace Sys2Proof.Machine

def unitState (s : State) (z : ZoneId) : UnitState := (s.units.get z).state

/-! ## Limits, in seconds -/

def deferralLimit (e : ZoneEntry) : Nat := 60 * e.maxDeferral
def heatLimit (e : ZoneEntry) : Nat := 60 * e.maxHeat
def dripLimit (e : ZoneEntry) : Nat := 60 * e.dripTime
def recoveryLimit (e : ZoneEntry) : Nat := 60 * e.recoveryTime

/-- The limit of the current phase (R154). -/
def phaseLimit (s : State) (z : ZoneId) : Option Nat :=
  let e := zoneEntry s z
  match unitState s z with
  | .idle => none
  | .requested => none
  | .pumpdown => some e.pumpdownTimeout
  | .heat => some (heatLimit e)
  | .drip => some (dripLimit e)
  | .recover => some (recoveryLimit e)

/-! ## Phases -/

/-- A unit changes phase: DEFROST PHASE is posted (R147). -/
def changePhase (z : ZoneId) (f : DefrostUnit → DefrostUnit) (s : State) : State := post .defrostPhase (s.modUnit z f)

/-- PUMPDOWN returns to IDLE with its end cause (R142, R148, R149). -/
def endPumpdown (z : ZoneId) (c : EndCause) (s : State) : State :=
  changePhase z (fun u => { u with state := .idle, lastCause := some c, lastStamp := some s.clock, phase := u.phase.stop }) s

/-- HEAT passes to DRIP with its end cause; the heat permit drops (R144). -/
def endHeat (z : ZoneId) (c : EndCause) (s : State) : State :=
  changePhase z (fun u =>
    { u with state := .drip, heatPermit := false, lastCause := some c, lastStamp := some s.clock, phase := .start }) s

/-- The coil test of R144. -/
def coilWarm (s : State) (z : ZoneId) : Bool :=
  let c := (s.zones.get z).coil
  c.state != .fault && (match c.filtered with
    | some t => decide (((zoneEntry s z).termination : Int) ≤ t)
    | none => false)

/-- The coil test made on a unit in HEAT (R144). -/
def testCoil (z : ZoneId) (s : State) : State :=
  if unitState s z = .heat ∧ coilWarm s z then endHeat z .temperature s else s

/-- Entry to HEAT (R143): the bypass begins (R16), and the coil is tested at once. -/
def enterHeat (z : ZoneId) (s : State) : State :=
  testCoil z (evalConditions z (changePhase z (fun u => { u with state := .heat, heatPermit := true, phase := .start }) s))

/-- Heat time spent: HEAT OVERRUN unless the coil cannot be judged (R144). -/
def heatSpent (z : ZoneId) (s : State) : State :=
  let c := (s.zones.get z).coil
  let blind := c.state == .fault || c.filtered.isNone
  let t := endHeat z .time s
  if blind then t else raise .heatOverrun (.zone z) t

/-- The recovery test of R146. -/
def recovered (s : State) (z : ZoneId) : Bool :=
  let a := (s.zones.get z).air
  a.state != .fault && (match a.filtered with
    | some t => decide (t ≤ (zoneEntry s z).setpoint + (zoneEntry s z).recoveryBand)
    | none => false)

/-- RECOVER returns to IDLE; the bypass ends (R146, R16). -/
def endRecovery (z : ZoneId) (s : State) : State :=
  evalConditions z (changePhase z (fun u => { u with state := .idle, phase := u.phase.stop }) s)

/-- The recovery test made on a unit in RECOVER (R146). -/
def testRecovery (z : ZoneId) (s : State) : State :=
  if unitState s z = .recover ∧ recovered s z then endRecovery z s else s

/-- Recovery time spent: RECOVERY FAIL unless the air cannot be judged (R146), raised before the conditions are judged without the bypass
(DESIGN CHOICE, notes/assumptions/31.md). -/
def recoverySpent (z : ZoneId) (s : State) : State :=
  let a := (s.zones.get z).air
  let blind := a.state == .fault || a.filtered.isNone
  endRecovery z (if blind then s else raise .recoveryFail (.zone z) s)

/-- DRIP passes to RECOVER, and the recovery is tested at once (R145). -/
def endDrip (z : ZoneId) (s : State) : State :=
  testRecovery z (changePhase z (fun u => { u with state := .recover, phase := .start }) s)

/-- The pumpdown timeout (R142). -/
def pumpdownExpires (z : ZoneId) (s : State) : State :=
  raise .pumpdownTimeout (.zone z) (endPumpdown z .aborted s)

/-! ## Time limits. An expiry exists only in its phase, while the phase timer runs; its count then stands at the limit. -/

/-- The phase timer has reached a limit. -/
def countTo (t : Timer) (limit : Nat) : Timer := { t with count := max t.count limit }

def phaseRuns (s : State) (z : ZoneId) (st : UnitState) : Bool := unitState s z == st && (s.units.get z).phase.running

def phaseReaches (z : ZoneId) (limit : Nat) (s : State) : State :=
  s.modUnit z fun u => { u with phase := countTo u.phase limit }

def pumpdownTimesOut (z : ZoneId) (s : State) : State :=
  if phaseRuns s z .pumpdown then pumpdownExpires z (phaseReaches z (zoneEntry s z).pumpdownTimeout s) else s

/-- PUMPDOWN_TIMEOUT (R142). -/
def execPumpdownTimeout (z : ZoneId) (s : State) : StepResult := whenRunning (fun s => settle (pumpdownTimesOut z s)) s

def heatTimesOut (z : ZoneId) (s : State) : State :=
  if phaseRuns s z .heat then heatSpent z (phaseReaches z (heatLimit (zoneEntry s z)) s) else s

/-- HEAT_TIME_EXPIRY (R144). -/
def execHeatTimeExpiry (z : ZoneId) (s : State) : StepResult := whenRunning (fun s => settle (heatTimesOut z s)) s

def dripTimesOut (z : ZoneId) (s : State) : State :=
  if phaseRuns s z .drip then endDrip z (phaseReaches z (dripLimit (zoneEntry s z)) s) else s

/-- DRIP_EXPIRY (R145). -/
def execDripExpiry (z : ZoneId) (s : State) : StepResult := whenRunning (fun s => settle (dripTimesOut z s)) s

def recoveryTimesOut (z : ZoneId) (s : State) : State :=
  if phaseRuns s z .recover then recoverySpent z (phaseReaches z (recoveryLimit (zoneEntry s z)) s) else s

/-- RECOVERY_TIME_EXPIRY (R146). -/
def execRecoveryTimeExpiry (z : ZoneId) (s : State) : StepResult := whenRunning (fun s => settle (recoveryTimesOut z s)) s

/-! ## Requests and deferral (R134, R136, R137) -/

def isUrgent (s : State) (z : ZoneId) : Bool := (s.units.get z).urgent

/-- A zone joins the tail of the urgent group (R134). -/
def joinUrgent (z : ZoneId) (s : State) : State :=
  let q := s.defrostQueue.filter fun y => y != z
  s.setDefrostQueue (q.takeWhile (isUrgent s) ++ z :: q.dropWhile (isUrgent s))

/-- A zone joins the tail of the non-urgent group, which is the tail of the queue (R134). -/
def joinQueue (z : ZoneId) (s : State) : State := s.setDefrostQueue (s.defrostQueue ++ [z])

/-- The deferral expires (R137). -/
def deferralExpires (z : ZoneId) (s : State) : State :=
  raise .defrostDeferred (.zone z)
    ((joinUrgent z s).modUnit z fun u =>
      { u with urgent := true, deferred := true, deferral := countTo u.deferral (deferralLimit (zoneEntry s z)) })

def deferralTimesOut (z : ZoneId) (s : State) : State :=
  let u := s.units.get z
  if u.state = .requested ∧ !u.urgent ∧ u.deferral.running then deferralExpires z s else s

/-- DEFERRAL_EXPIRY (R137). -/
def execDeferralExpiry (z : ZoneId) (s : State) : StepResult := whenRunning (fun s => settle (deferralTimesOut z s)) s

/-- The unit enters REQUESTED and its zone joins the queue (R136). -/
def enterRequested (z : ZoneId) (s : State) : State :=
  let now := (zoneEntry s z).maxDeferral = 0
  (if now then joinUrgent z s else joinQueue z s).modUnit z fun u =>
    { u with state := .requested, deferral := .start, urgent := decide now }

/-- DEFROST REQUEST (R136): OK where the grant judgment within the event grants this zone, QUEUED otherwise. -/
def defrostRequestBody (zone : Nat) (s : State) : Served :=
  match zone? zone with
  | none => refuse .param s
  | some z =>
      if !zoneUsed s z then refuse .param s
      else if unitState s z ≠ .idle then refuse .state s
      else
        let t := settle (enterRequested z s)
        answer (if unitState t z = .pumpdown then .ok else .queued) [] t

def execDefrostRequest (p : Port) (zone : Nat) (s : State) : StepResult := serve p .defrostRequest (defrostRequestBody zone) s

/-- PUMPDOWN DONE (R142). -/
def pumpdownDoneBody (zone : Nat) (s : State) : Served :=
  match zone? zone with
  | none => refuse .param s
  | some z => if unitState s z ≠ .pumpdown then refuse .state s else answer .ok [] (settle (enterHeat z s))

def execPumpdownDone (p : Port) (zone : Nat) (s : State) : StepResult := serve p .pumpdownDone (pumpdownDoneBody zone) s

/-- HEAT END (R144). -/
def heatEndBody (zone : Nat) (s : State) : Served :=
  match zone? zone with
  | none => refuse .param s
  | some z => if unitState s z ≠ .heat then refuse .state s else answer .ok [] (settle (endHeat z .plant s))

def execHeatEnd (p : Port) (zone : Nat) (s : State) : StepResult := serve p .heatEnd (heatEndBody zone) s

/-! ## Abort and plant silence -/

/-- A REQUESTED unit returns to IDLE: no phase notice, and neither end field is written (R133, R147). -/
def withdrawRequest (z : ZoneId) (s : State) : State := (leaveRequested z s).modUnit z fun u => { u with state := .idle }

/-- DEFROST ABORT (R148). -/
def defrostAbortBody (zone : Nat) (s : State) : Served :=
  match zone? zone with
  | none => refuse .param s
  | some z =>
      match unitState s z with
      | .requested => answer .ok [] (settle (withdrawRequest z s))
      | .pumpdown => answer .ok [] (settle (endPumpdown z .aborted s))
      | .heat => answer .ok [] (settle (endHeat z .aborted s))
      | .recover => answer .ok [] (settle (endRecovery z s))
      | .drip => refuse .state s
      | .idle => refuse .state s

def execDefrostAbort (p : Port) (zone : Nat) (s : State) : StepResult := serve p .defrostAbort (defrostAbortBody zone) s

/-- Plant silence at one unit (R149). -/
def silenceUnit (z : ZoneId) (s : State) : State :=
  match unitState s z with
  | .requested => withdrawRequest z s
  | .pumpdown => endPumpdown z .silent s
  | .heat => endHeat z .silent s
  | .drip => s
  | .recover => s
  | .idle => s

/-- Plant silence (R149): every unit at one event, and the queue is emptied. -/
def plantSilence (s : State) : State := (forEach allZones silenceUnit s).setDefrostQueue []

/-! ## Reading a unit (R154) -/

/-- DEFROST READ's payload, in the order of R154's table; the deferral timer takes a running byte, the queue position takes 1 byte, and the last end
cause and its stamp are two items, each with its own presence byte; the heat permit, 'asserted or deasserted', is sent as a flag, 1 asserted, and
each gate as a flag, 1 where it passes (R188; DEDUCED, notes/assumptions/7.md). -/
def defrostReadBytes (s : State) (z : ZoneId) : List Byte :=
  let u := s.units.get z
  u8 u.state.code ++ flagBytes u.urgent ++
  timerBytes u.deferral ++ u16 (deferralLimit (zoneEntry s z)) ++
  timerBytes u.phase ++ optBytes 2 ((phaseLimit s z).map u16) ++
  optBytes 1 (u.lastCause.map fun c => u8 c.code) ++ optBytes 4 (u.lastStamp.map u32) ++
  flagBytes u.heatPermit ++
  optBytes 1 ((queuePosition s.defrostQueue z).map u8) ++
  optBytes 9 (if s.defrostQueue.contains z then
    some (flagBytes (gateSlot s) ++ flagBytes (gateDoors s z) ++ flagBytes (gateReserve s z) ++
      u16 (openCount s z) ++ u16 (forcedCount s z) ++ u16 (reserveRiskCount s z))
    else none) ++
  u16 (slotsInUse s) ++ u8 s.profile.global.maxConcurrent ++
  u8 s.defrostQueue.length ++ s.defrostQueue.flatMap fun y => u8 (y.val + 1) ++ flagBytes (isUrgent s y)

def defrostReadBody (zone : Nat) (s : State) : Served :=
  match zone? zone with
  | none => refuse .param s
  | some z => answer .ok (defrostReadBytes s z) s

def execDefrostRead (p : Port) (zone : Nat) (s : State) : StepResult := serve p .defrostRead (defrostReadBody zone) s

end Sys2Proof.Machine
end

