-- ==== Sys2Proof/Machine/Zones.lean ====
section
/-! DEFINITION. The Probe Scanner and the samples of the Zone Monitor (chapter 1): conversion and classing (R1, R2), the reference check
(R3, R4), the probe state machine and the filter (R5 to R9), what follows from a sample in its zone (R10, R13, R144, R146), and ZONE
READ (R22). -/

namespace Sys2Proof.Machine

/-! ## Conversion (R1, R2) -/

/-- The zone of a channel: channel 2n-1 and channel 2n belong to zone Zn. -/
def channelZone (c : Fin 16) : ZoneId := ⟨c.val / 2, by omega⟩

/-- Odd channels carry air probes, even channels coil probes (channel n is index n-1). -/
def channelProbe (c : Fin 16) : ProbeKind := if c.val % 2 = 0 then .air else .coil

/-- The raw temperature of a code (R2). -/
def rawTemperature (span : Nat) (offset : Int) (code : Nat) : Int :=
  roundNearest (((code : Int) - 8192) * span) 8192 + offset

/-- A sample's class and temperature (R1). -/
def classify (fault : Bool) (span : Nat) (offset : Int) (code : Nat) : Sample :=
  if fault then .reference
  else if code < Config.codeLow then .short
  else if Config.codeHigh < code then .openCircuit
  else
    let t := rawTemperature span offset code
    if t < Config.tempMin ∨ Config.tempMax < t then .range else .good t

def probeSpan (e : ZoneEntry) : ProbeKind → Nat
  | .air => e.airSpan
  | .coil => e.coilSpan

def probeOffset (e : ZoneEntry) : ProbeKind → Int
  | .air => e.airOffset
  | .coil => e.coilOffset

/-! ## The probe machine (R5 to R9) -/

/-- The filtered value of a history: its mean, rounded to nearest (R9). -/
def filterMean (h : List Int) : Option Int := if h.isEmpty then none else some (roundNearest h.sum h.length)

/-- A sample joins the newest end; a full history drops its oldest (R9). -/
def pushSample (h : List Int) (t : Int) : List Int := (if 4 ≤ h.length then h.drop (h.length - 3) else h) ++ [t]

/-- A GOOD sample (R5, R6, R8). -/
def Probe.takeGood (p : Probe) (t : Int) : Probe :=
  let h := pushSample p.history t
  match p.state with
  | .ok => { p with history := h, filtered := filterMean h }
  | .suspect => { p with state := .ok, bad := 0, history := h, filtered := filterMean h }
  | .fault =>
      if 4 ≤ p.good + 1 then { p with state := .ok, bad := 0, good := 0, history := h, filtered := filterMean h }
      else { p with good := p.good + 1, history := h }

/-- A bad sample (R5 to R8). -/
def Probe.takeBad (p : Probe) : Probe :=
  match p.state with
  | .ok => { p with state := .suspect, bad := 1 }
  | .suspect =>
      if 3 ≤ p.bad + 1 then { p with state := .fault, bad := p.bad + 1, good := 0, history := [] }
      else { p with bad := p.bad + 1 }
  | .fault => { p with good := 0, history := [] }

/-- A sample reaches its probe, and is its last sample (R1). -/
def Probe.take (p : Probe) (x : Sample) : Probe :=
  let q := match x with
    | .good t => p.takeGood t
    | .short => p.takeBad
    | .openCircuit => p.takeBad
    | .range => p.takeBad
    | .reference => p.takeBad
  { q with last := some x }

def ZoneRecord.probe (r : ZoneRecord) : ProbeKind → Probe
  | .air => r.air
  | .coil => r.coil

def ZoneRecord.withProbe (r : ZoneRecord) (k : ProbeKind) (p : Probe) : ZoneRecord :=
  match k with
  | .air => { r with air := p }
  | .coil => { r with coil := p }

def probeAlarm : ProbeKind → AlarmKind
  | .air => .airProbeFault
  | .coil => .coilProbeFault

/-- The probe alarm and the notices of a probe's change: entering FAULT raises, leaving FAULT clears (R7, R8); each change of state, and
each change of an air probe's substitution flag, posts ZONE CHANGE (R5, R10). -/
def tellProbe (z : ZoneId) (k : ProbeKind) (old new : Probe) (s : State) : State :=
  let t :=
    if old.state ≠ .fault ∧ new.state = .fault then raise (probeAlarm k) (.zone z) s
    else if old.state = .fault ∧ new.state ≠ .fault then clear (probeAlarm k) (.zone z) s
    else s
  postIf (old.state != new.state || (k == .air && old.substituted != new.substituted)) .zoneChange t

/-- A sample reaches a used zone's record: the probe takes it; an air value is judged by the conditions (R13) and the recovery test
(R146), a coil value by the termination test (R144). -/
def sampleZone (z : ZoneId) (k : ProbeKind) (x : Sample) (s : State) : State :=
  let old := (s.zones.get z).probe k
  let new := old.take x
  let t := tellProbe z k old new (s.putZone z ((s.zones.get z).withProbe k new))
  match k with
  | .air => settle (testRecovery z (evalConditions z t))
  | .coil => settle (testCoil z t)

/-- A conversion completes in the sweep; an UNUSED zone's sample reaches no record (R1). -/
def takeConversion (c : Fin 16) (code : Nat) (s : State) : State :=
  let z := channelZone c
  let k := channelProbe c
  if s.converter.sweepBegun && zoneUsed s z then
    sampleZone z k (classify s.converter.fault (probeSpan (zoneEntry s z) k) (probeOffset (zoneEntry s z) k) code) s
  else s

/-- CONVERSION_COMPLETE (R1). -/
def execConversionComplete (c : Fin 16) (code : Nat) (s : State) : StepResult := whenRunning (takeConversion c code) s

/-! ## The reference check (R3, R4) -/

/-- Both codes lie inside their windows (R3). -/
def checkGood (a b : Nat) : Bool :=
  Config.refALow ≤ a && a ≤ Config.refAHigh && Config.refBLow ≤ b && b ≤ Config.refBHigh

/-- The converter state takes a check result (R4). -/
def Converter.judge (c : Converter) (good : Bool) : Converter :=
  if c.fault then
    if good then (if c.goodCount = 0 then { c with goodCount := 1 } else { c with fault := false, goodCount := 0 })
    else { c with goodCount := 0 }
  else if good then c else { c with fault := true, goodCount := 0 }

/-- A reference check completes: the sweep has begun, and the next check falls 60 s later (R1, R3, R4). -/
def takeCheck (a b : Nat) (s : State) : State :=
  let c := s.converter.judge (checkGood a b)
  let t := s.setConverter { c with sweepBegun := true, sinceCheck := 0 }
  if c.fault && !s.converter.fault then raise .converterFault .none t
  else if s.converter.fault && !c.fault then clear .converterFault .none t
  else t

/-- REFERENCE_CHECK (R3). -/
def execReferenceCheck (a b : Nat) (s : State) : StepResult := whenPowered (takeCheck a b) s

/-! ## Reading a zone (R22) -/

def probeBytes (p : Probe) : List Byte :=
  u8 p.state.code ++ u16 p.bad ++ u16 p.good ++ u16 p.history.length ++ sampleBytes p.last ++ tempBytes p.filtered

/-- The state and the timer count, a bare count without a running byte (R22, R188; DEDUCED, notes/assumptions/7.md). -/
def conditionBytes (c : Condition) : List Byte := u8 c.state.code ++ u16 c.timer

/-- ZONE READ's payload, in the order of R22's table; whether CONVERTER FAULT stands and whether the bypass is in force are sent as flags, 1 where
so (R188; DEDUCED, notes/assumptions/7.md). -/
def zoneReadBytes (s : State) (z : ZoneId) : List Byte :=
  let r := s.zones.get z
  let used := zoneUsed s z
  u8 (zoneKindCode (zoneEntry s z).kind) ++
  flagBytes s.converter.fault ++ u16 s.converter.goodCount ++
  probeBytes r.air ++ probeBytes r.coil ++
  tempBytes (if used then some (accrualTemp s z) else none) ++
  flagBytes (used && substitutionFlag s z) ++
  tempBytes (if used then some (substitute s z) else none) ++
  flagBytes (bypassed s z) ++
  conditionBytes r.highWarn ++ conditionBytes r.high ++ conditionBytes r.low

def zoneReadBody (zone : Nat) (s : State) : Served :=
  match zone? zone with
  | none => refuse .param s
  | some z => answer .ok (zoneReadBytes s z) s

def execZoneRead (p : Port) (zone : Nat) (s : State) : StepResult := serve p .zoneRead (zoneReadBody zone) s

end Sys2Proof.Machine
end

