-- ==== Sys2Proof/Machine/Exposure.lean ====
section
/-! DEFINITION. The Exposure Counter (chapter 2): charging temperatures (R25 to R28), the charge (R29 to R33) with status and pallet
alarms (R34 to R36), the period expiry (R23, R24), the move estimate and budget test (R37, R38), class edits (R39, R40) and the catch-up
(R41 to R43). -/

namespace Sys2Proof.Machine

/-! ## Charging temperatures -/

def maxOf (xs : List Int) : Option Int := xs.foldl (fun acc x => some (match acc with
  | none => x
  | some a => max a x)) none

/-- The unresolved charging temperature (R28). -/
def unresolvedTemp (s : State) : Int :=
  match maxOf ((allZones.filter (zoneUsed s)).map (highAlarm s)) with
  | none => Config.tempMax
  | some t => clampTemp t

/-- The zone has a door at either end of the transit, and that door is in BREACH or LOST (R27). -/
def doorInDoubt (s : State) (d : DoorId) : Bool := doorState s d == .breach || doorState s d == .lost

def zoneInDoubt (s : State) (origin : Place) (dest : Dest) (z : ZoneId) : Bool :=
  (match origin with
    | .trailer d => doorZone s d == z && doorInDoubt s d
    | _ => false) ||
  (match dest with
    | .door d => doorZone s d == z && doorInDoubt s d
    | _ => false)

/-- A route zone's contribution, and whether it marks the pallet ESTIMATED (R27). -/
def contribution (s : State) (origin : Place) (dest : Dest) (z : ZoneId) : Int × Bool :=
  if zoneInDoubt s origin dest z then (substitute s z, true)
  else if !zoneUsed s z then (unresolvedTemp s, true)
  else (accrualTemp s z, substitutionFlag s z)

/-- The largest contribution of a route, and whether any contribution marks (R27). A route is never empty. -/
def routeCharge (s : State) (origin : Place) (dest : Dest) (route : List ZoneId) : Int × Bool :=
  ((maxOf (route.map fun z => (contribution s origin dest z).1)).getD Config.tempMin,
   route.any fun z => (contribution s origin dest z).2)

/-- The charging temperature and mark of a location; none where the pallet takes no charge (R25 to R28). -/
def chargeAt (s : State) : Location → Option (Int × Bool)
  | .at (.lane l) => some (accrualTemp s (laneZone s l), substitutionFlag s (laneZone s l))
  | .at (.bulk z) => some (accrualTemp s z, substitutionFlag s z)
  | .at (.trailer d) =>
      let z := doorZone s d
      if (doorState s d).countsOpen then some (accrualTemp s z, substitutionFlag s z)
      else if doorInDoubt s d then some (substitute s z, true)
      else none
  | .transit t => some (routeCharge s t.origin t.dest t.route)
  | .unresolved => some (unresolvedTemp s, true)

/-! ## The charge -/

/-- The excess over the class threshold (R30). -/
def excess (c : ClassEntry) (t : Int) : Nat := (t - c.threshold).toNat

/-- Account and residue after a charge at `t` for `p` seconds (R30, R31). -/
def chargedAccount (c : ClassEntry) (t : Int) (p : Nat) (account residue : Nat) : Nat × Nat :=
  let sum := residue + excess c t * p
  let inc := sum / 60
  let a := min Config.countMax (account + inc)
  (a, if a = Config.countMax then 0 else sum - 60 * inc)

/-- The peak after a charge (R32). -/
def raisedPeak (p : Option Int) (t : Int) : Option Int :=
  match p with
  | none => some t
  | some x => some (max x t)

/-- The arithmetic of one charge on a record, its status recomputed after the account is written (R30 to R32, R34). -/
def Pallet.charge (p : Pallet) (c : ClassEntry) (t : Int) (secs : Nat) (mark : Bool) : Pallet :=
  let r := chargedAccount c t secs p.account p.residue
  { p with account := r.1, residue := r.2, peak := raisedPeak p.peak t, estimated := p.estimated || mark,
           status := statusOf c r.1 }

def zoneIsDock (s : State) (z : ZoneId) : Bool := (zoneEntry s z).kind == .dock

/-- The cases in which dwell grows (R33). -/
def onDockSide (s : State) : Location → Bool
  | .at (.lane l) => zoneIsDock s (laneZone s l)
  | .at (.bulk z) => zoneIsDock s z
  | .at (.trailer _) => true
  | .transit t => t.route.any (zoneIsDock s)
  | .unresolved => false

/-- Dwell after `secs` seconds (R33). -/
def Pallet.dwellAfter (p : Pallet) (s : State) (secs : Nat) : Nat :=
  if onDockSide s p.location then min Config.countMax (p.dwell + secs) else p.dwell

/-- One record after its charge for a period (R24). -/
def chargedPallet (s : State) (secs : Nat) (p : Pallet) : Pallet :=
  let q := { p with dwell := p.dwellAfter s secs, charged := true }
  match chargeAt s p.location with
  | none => q
  | some (t, mark) => q.charge (classEntry s p.cls) t secs mark

/-! ## Status and alarms of a record -/

/-- PALLET OVER begins or ends with the status (R35). -/
def tellOver (tag : Nat) (old new : Status) (s : State) : State :=
  if old ≠ .over ∧ new = .over then raise .palletOver (.tag tag) s
  else if old = .over ∧ new ≠ .over then clear .palletOver (.tag tag) s
  else s

/-- DWELL EXCEEDED begins or ends (R36). -/
def tellDwell (tag : Nat) (old new : Bool) (s : State) : State :=
  if !old && new then raise .dwellExceeded (.tag tag) s
  else if old && !new then clear .dwellExceeded (.tag tag) s
  else s

/-- Put a changed record in place, with PALLET STATUS (R34), PALLET OVER (R35) and DWELL EXCEEDED (R36) under its class settings. -/
def tellPallet (old new : Pallet) (s : State) : State :=
  let c := classEntry s old.cls
  tellDwell old.tag (dwellExceeds c old.dwell) (dwellExceeds c new.dwell)
    (tellOver old.tag old.status new.status
      (postIf (old.status != new.status) .palletStatus (setPallet new s)))

/-- The charge of one record that has not had its charge of this expiry (R24). What the judgments that follow clear comes before the
alarms of the records charged later (DESIGN CHOICE, notes/assumptions/31.md). -/
def chargeOne (secs tag : Nat) (s : State) : State :=
  match findPallet s tag with
  | none => s
  | some p => if p.charged then s else settle (tellPallet p (chargedPallet s secs p) s)

/-- PALLET_CHARGE (R24): the charge of one record for the period now ending, taken before the expiry's other charges
(notes/assumptions/3.md). -/
def chargeEarly (tag : Nat) (s : State) : State :=
  match s.exposure.period with
  | none => s
  | some secs => chargeOne secs tag s

def execPalletCharge (tag : Nat) (s : State) : StepResult := whenRunning (chargeEarly tag) s

/-- The marks of the expiry are taken away. -/
def unmark (s : State) : State := s.setPallets (s.pallets.map fun p => { p with charged := false })

/-- The period expires (R23): every record is charged once, by rising tag (DESIGN CHOICE,
notes/assumptions/9.md); the stamp takes the clock; the next period starts at the
length in the working profile. -/
def periodExpires (s : State) : State :=
  match s.exposure.period with
  | none => s
  | some secs =>
      let t := unmark (forEach (s.pallets.map Pallet.tag) (chargeOne secs) s)
      t.setExposure ⟨some t.profile.global.accrualPeriod, 0, t.clock⟩

/-- ACCRUAL_PERIOD_EXPIRY (R23). -/
def execAccrualPeriodExpiry (s : State) : StepResult := whenRunning periodExpires s

/-! ## The move estimate and the budget test -/

/-- The move estimate (R37): E is the largest contribution of the route less the threshold; E times the duration, over 60, rounded up. -/
def moveEstimate (s : State) (c : ClassEntry) (origin : Place) (dest : Dest) (route : List ZoneId) (duration : Nat) : Nat :=
  ceilDiv (excess c (routeCharge s origin dest route).1 * duration) 60

/-- A cooling move (R38). -/
def coolingMove (s : State) (c : ClassEntry) (dest : Dest) : Bool := accrualTemp s (destZone s dest) ≤ c.threshold

def Dest.isDoor : Dest → Bool
  | .door _ => true
  | _ => false

/-- The budget test (R38). -/
def passesBudget (s : State) (p : Pallet) (dest : Dest) (estimate : Nat) : Bool :=
  let c := classEntry s p.cls
  p.account + estimate ≤ c.budget || coolingMove s c dest || (dest.isDoor && p.overridden)

/-! ## Class edits -/

/-- A record after an edit of its class: the status is recomputed, and nothing else changes (R39, R40). -/
def reclassed (c : ClassEntry) (p : Pallet) : Pallet := { p with status := statusOf c p.account }

/-- One record judged after its class changed from `old` to `new` (R39, R40). -/
def judgeClassOne (old new : ClassEntry) (tag : Nat) (s : State) : State :=
  match findPallet s tag with
  | none => s
  | some p =>
      let q := reclassed new p
      tellDwell tag (dwellExceeds old p.dwell) (dwellExceeds new p.dwell)
        (tellOver tag p.status q.status (postIf (p.status != q.status) .palletStatus (setPallet q s)))

/-- Every record of the class is judged at once, by rising tag (R39, R40). -/
def judgeClass (c : ClassId) (old new : ClassEntry) (s : State) : State :=
  forEach ((s.pallets.filter fun p => p.cls == c).map Pallet.tag) (judgeClassOne old new) s

/-! ## Catch-up (R41 to R43) -/

/-- The outage (R41). -/
def outageOf (s : State) : Nat := s.clock - s.exposure.lastStamp

/-- The catch-up temperature of a location (R42). -/
def catchUpTemp (s : State) : Location → Int
  | .at w => clampTemp (highAlarm s (placeZone s w))
  | .transit t =>
      clampTemp ((maxOf (t.route.map fun z => if zoneUsed s z then highAlarm s z else unresolvedTemp s)).getD Config.tempMin)
  | .unresolved => unresolvedTemp s

/-- One record after its catch-up charge, its status computed (R42, R43). An outage of 0 changes nothing else. -/
def caughtUp (s : State) (outage : Nat) (p : Pallet) : Pallet :=
  let c := classEntry s p.cls
  let q :=
    if outage = 0 then p
    else { p.charge c (catchUpTemp s p.location) outage true with dwell := p.dwellAfter s outage }
  { q with status := statusOf c q.account, charged := false }

/-- The conditions of one record after the catch-up: the list starts empty, so each that stands is raised as new (R43). -/
def raiseStanding (p : Pallet) (s : State) : State :=
  let c := classEntry s p.cls
  let t := if p.status = .over then raise .palletOver (.tag p.tag) s else s
  if dwellExceeds c p.dwell then raise .dwellExceeded (.tag p.tag) t else t

/-- The catch-up and its end (R41 to R43). -/
def catchUp (s : State) : State :=
  let outage := outageOf s
  let new := s.pallets.map (caughtUp s outage)
  let changed := (s.pallets.zip new).any fun x => x.1.status != x.2.status
  let t := postIf changed .palletStatus (forEach new raiseStanding (s.setPallets new))
  t.setExposure ⟨some t.profile.global.accrualPeriod, 0, t.clock⟩

end Sys2Proof.Machine
end

