-- ==== Sys2Proof/Machine/Pallets.lean ====
section
/-! DEFINITION. The Pallet Table's requests (chapter 3): ARRIVE (R49, R50), RESOLVE (R51), DISPOSE (R52, R53), the removal of a record
(R54), PURGE (R55, R56) and PALLET READ (R57). -/

namespace Sys2Proof.Machine

/-! ## Arrival -/

/-- The record ARRIVE creates (R45, R50). -/
def newPallet (s : State) (tag : Nat) (c : ClassId) (d : DoorId) (carried : Nat) : Pallet :=
  let account := min Config.countMax carried
  { tag := tag, cls := c, account := account, residue := 0, status := statusOf (classEntry s c) account,
    overridden := false, estimated := false, peak := none, dwell := 0, arrived := s.clock, location := .at (.trailer d),
    moves := 0, history := [(.at (.trailer d), s.clock)], charged := false }

/-- The answer of ARRIVE: the new account and status (R50). -/
def arrivePayload (p : Pallet) : List Byte := u16 p.account ++ u8 p.status.code

/-- ARRIVE (R49, R50). -/
def arriveBody (tag cls door carried : Nat) (s : State) : Served :=
  match class? cls, door? door with
  | some c, some d =>
      if !tagOk tag then refuse .param s
      else if (findPallet s tag).isSome then refuse .duplicate s
      else if !takesInbound s d then refuse .state s
      else if Config.maxPallets ≤ s.pallets.length then refuse .full s
      else
        let p := newPallet s tag c d carried
        let t := tellOver tag .normal p.status (postIf (p.status != .normal) .palletStatus (addPallet p s))
        answer (if Config.countMax < carried then .clamped else .ok) (arrivePayload p) t
  | _, _ => refuse .param s

def execArrive (p : Port) (tag cls door carried : Nat) (s : State) : StepResult :=
  serve p .arrive (arriveBody tag cls door carried) s

/-! ## Resolving -/

/-- The location of a RESOLVE names a used zone, where it names a lane or a bulk store (R51, check 1). -/
def placeUsable (s : State) : Place → Bool
  | .trailer _ => true
  | .lane l => zoneUsed s (laneZone s l)
  | .bulk z => zoneUsed s z

/-- Checks 4 and 5 of R51. -/
def placeRefusal (s : State) : Place → Option Result
  | .trailer d => if takesInbound s d then none else some .state
  | .lane l => if laneHasRoom s l then none else some .full
  | .bulk _ => none

/-- A pallet joins a lane's queue at the tail (R63). -/
def joinLane (l : LaneId) (tag : Nat) (s : State) : State := s.putLane l (s.lanes.get l ++ [tag])

/-- A pallet is put at a place: a lane takes it at its tail, and one history entry is pushed (R48, R51). -/
def placePallet (w : Place) (p : Pallet) (s : State) : State :=
  let t := setPallet (p.placed w s.clock) s
  match w with
  | .lane l => joinLane l p.tag t
  | .trailer _ => t
  | .bulk _ => t

/-- RESOLVE (R51). -/
def resolveBody (tag form index : Nat) (s : State) : Served :=
  match place? form index with
  | none => refuse .param s
  | some w =>
      if !(tagOk tag && placeUsable s w) then refuse .param s
      else match findPallet s tag with
        | none => refuse .notFound s
        | some p =>
            if p.location ≠ .unresolved then refuse .state s
            else match placeRefusal s w with
              | some r => refuse r s
              | none => answer .ok [] (placePallet w p s)

def execResolve (p : Port) (tag form index : Nat) (s : State) : StepResult := serve p .resolve (resolveBody tag form index) s

/-! ## Removal (R54) -/

/-- The conditions of a record end with it (R35, R36). -/
def endPalletAlarms (p : Pallet) (s : State) : State :=
  tellDwell p.tag (dwellExceeds (classEntry s p.cls) p.dwell) false (tellOver p.tag p.status .normal s)

/-- A record leaves the place it held: its lane closes up, or its door's count of pallets aboard falls (R54). -/
def leavePlace (tag : Nat) (loc : Location) (s : State) : State :=
  match loc with
  | .at (.lane l) => s.putLane l ((s.lanes.get l).filter fun t => t != tag)
  | .at (.trailer d) => judgeReleaseReady d s
  | _ => s

/-- A record leaves the table (R54). -/
def removePallet (p : Pallet) (s : State) : State :=
  settle (leavePlace p.tag p.location (erasePallet p.tag (endPalletAlarms p s)))

/-- DISPOSE OVERRIDE (R52). -/
def disposeOverrideBody (tag : Nat) (s : State) : Served :=
  if !tagOk tag then refuse .param s
  else match findPallet s tag with
    | none => refuse .notFound s
    | some p =>
        if p.status ≠ .over then refuse .state s
        else answer .ok [] (setPallet { p with overridden := true } s)

def execDisposeOverride (p : Port) (tag : Nat) (s : State) : StepResult := serve p .dispose (disposeOverrideBody tag) s

/-- DISPOSE REMOVE (R52, R53). -/
def disposeRemoveBody (tag : Nat) (s : State) : Served :=
  if !tagOk tag then refuse .param s
  else match findPallet s tag with
    | none => refuse .notFound s
    | some p => if p.transit?.isSome then refuse .state s else answer .ok [] (removePallet p s)

def execDisposeRemove (p : Port) (tag : Nat) (s : State) : StepResult := serve p .dispose (disposeRemoveBody tag) s

/-! ## Purging -/

def inRanges (ranges : List (Nat × Nat)) (tag : Nat) : Bool := ranges.any fun r => r.1 ≤ tag && tag ≤ r.2

/-- The request's form (R55). -/
def rangesOk (ranges : List (Nat × Nat)) : Bool :=
  1 ≤ ranges.length && ranges.length ≤ 8 && ranges.all fun r => r.1 ≤ r.2

/-- The record of a tag is removed, where it stands (R56). -/
def purgeOne (tag : Nat) (s : State) : State :=
  match findPallet s tag with
  | none => s
  | some p => removePallet p s

/-- PURGE (R55, R56): the counts of records removed and skipped. -/
def purgeBody (ranges : List (Nat × Nat)) (s : State) : Served :=
  if !rangesOk ranges then refuse .param s
  else
    let hit := s.pallets.filter fun p => inRanges ranges p.tag
    let gone := hit.filter fun p => !p.transit?.isSome
    answer .ok (u16 gone.length ++ u16 (hit.length - gone.length)) (forEach (gone.map Pallet.tag) purgeOne s)

def execPurge (p : Port) (ranges : List (Nat × Nat)) (s : State) : StepResult := serve p .purge (purgeBody ranges) s

/-! ## Reading -/

/-- PALLET READ (R57). -/
def palletReadBody (tag : Nat) (s : State) : Served :=
  if !tagOk tag then refuse .param s
  else match findPallet s tag with
    | none => refuse .notFound s
    | some p => answer .ok (palletBytes (classEntry s p.cls) p) s

def execPalletRead (p : Port) (tag : Nat) (s : State) : StepResult := serve p .palletRead (palletReadBody tag) s

end Sys2Proof.Machine
end

