-- ==== Sys2Proof/Machine/Moves.lean ====
section
/-! DEFINITION. Moves and staging lanes (chapter 4) with the closing of departure records (R157 to R159): the MOVE checks in order (R66
to R72), the grant (R73), the overdue limit (R76), MOVE DONE (R77 to R80), MOVE CANCEL (R82 to R84) and LANE READ (R64). -/

namespace Sys2Proof.Machine

/-! ## The MOVE checks -/

/-- The clamp of the duration (R66). -/
def clampDuration (d : Nat) : Nat := clampNat 1 1800 d

/-- R68: the route begins in the origin's zone, ends in the destination's, and holds no UNUSED zone. -/
def routeFits (s : State) (origin : Place) (dest : Dest) (route : List ZoneId) : Bool :=
  route.head? == some (placeZone s origin) && route.getLast? == some (destZone s dest) && route.all (zoneUsed s)

/-- R69: the origin's check. -/
def originRefusal (s : State) (tag : Nat) : Place → Option Result
  | .trailer d => if doorState s d = .opened then none else some .state
  | .lane l => if (s.lanes.get l).head? = some tag then none else some .head
  | .bulk _ => none

/-- The pool has room (R71, check 3). -/
def poolHasRoom (s : State) : Bool := poolRecords s + loadReservations s < Config.maxDepartures

/-- The door is OPEN with an OUTBOUND assignment (R71, check 1). -/
def opensOutbound (s : State) (d : DoorId) : Bool :=
  doorState s d == .opened && ((s.doors.get d).assignment.map fun a => a.direction == .outbound).getD false

/-- R70, R71: the destination's checks. -/
def destRefusal (s : State) (p : Pallet) : Dest → Option Result
  | .lane l => if laneHasRoom s l then none else some .full
  | .bulk _ => none
  | .door d =>
      if !opensOutbound s d then some .state
      else if p.status = .over ∧ !p.overridden then some .held
      else if !poolHasRoom s then some .full
      else none

/-- The estimate the budget test and the answer use (R37, R72). -/
def estimateOf (s : State) (p : Pallet) (origin : Place) (dest : Dest) (route : List ZoneId) (duration : Nat) : Nat :=
  moveEstimate s (classEntry s p.cls) origin dest route duration

/-- Checks 4 to 11 of R72's table, in order. -/
def moveRefusal (s : State) (p : Pallet) (origin : Place) (dest : Dest) (route : List ZoneId) (duration : Nat) : Option Result :=
  if Config.maxTransits ≤ transitCount s then some .full
  else if !routeFits s origin dest route then some .param
  else match originRefusal s p.tag origin with
    | some r => some r
    | none =>
        match destRefusal s p dest with
        | some r => some r
        | none => if passesBudget s p dest (estimateOf s p origin dest route duration) then none else some .budget

/-! ## The grant (R73) -/

/-- The origin gives the pallet up: the head leaves its lane; a door's count of pallets aboard falls. -/
def giveUpOrigin (origin : Place) (s : State) : State :=
  match origin with
  | .lane l => s.putLane l ((s.lanes.get l).drop 1)
  | .trailer d => judgeReleaseReady d s
  | .bulk _ => s

/-- The grant: the transit record carries the reservation and the hold (R62, R155). -/
def grantMove (p : Pallet) (origin : Place) (dest : Dest) (route : List ZoneId) (duration : Nat) (s : State) : State :=
  settle (giveUpOrigin origin
    (setPallet { p with location := .transit ⟨origin, dest, route, duration, 0, false⟩ } s))

/-- The answer of a granted MOVE: the estimate and the duration in force (R73), 2 bytes each (R188; for the estimate DEDUCED,
notes/assumptions/7.md). -/
def movePayload (estimate duration : Nat) : List Byte := u16 estimate ++ u16 duration

/-- MOVE of a pallet that stands at a place (R67 to R73). -/
def moveFrom (p : Pallet) (origin : Place) (dest : Dest) (route : List ZoneId) (asked : Nat) (s : State) : Served :=
  let duration := clampDuration asked
  match moveRefusal s p origin dest route duration with
  | some r => refuse r s
  | none =>
      answer (if duration = asked then .ok else .clamped) (movePayload (estimateOf s p origin dest route duration) duration)
        (grantMove p origin dest route duration s)

/-- MOVE (R66, R67). -/
def moveBody (tag form index : Nat) (route : List Nat) (duration : Nat) (s : State) : Served :=
  match dest? form index, route? route with
  | some dest, some zs =>
      if !tagOk tag then refuse .param s
      else match findPallet s tag with
        | none => refuse .notFound s
        | some p =>
            match p.location with
            | .at origin => moveFrom p origin dest zs duration s
            | .transit _ => refuse .state s
            | .unresolved => refuse .state s
  | _, _ => refuse .param s

def execMove (p : Port) (tag form index : Nat) (route : List Nat) (duration : Nat) (s : State) : StepResult :=
  serve p .move (moveBody tag form index route duration) s

/-! ## Overdue supervision (R76) -/

/-- The overdue limit. -/
def overdueLimit (t : Transit) : Nat := 2 * t.duration + 60

/-- The grant timer reaches the overdue limit. -/
def moveOverdue (tag : Nat) (s : State) : State :=
  match findPallet s tag with
  | none => s
  | some p =>
      match p.location with
      | .transit t =>
          if t.overdue then s
          else post .moveOverdue (raise .moveOverdue (.tag tag)
            (setPallet { p with location := .transit { t with overdue := true, timer := max t.timer (overdueLimit t) } } s))
      | _ => s

/-- MOVE_OVERDUE_EXPIRY (R76). -/
def execMoveOverdueExpiry (tag : Nat) (s : State) : StepResult := whenRunning (moveOverdue tag) s

/-- The overdue condition ends with the transit (R76). -/
def endOverdue (tag : Nat) (t : Transit) (s : State) : State := if t.overdue then clear .moveOverdue (.tag tag) s else s

/-! ## MOVE DONE -/

/-- A move count rises by one, and stays at 255 (R45). -/
def nextMove (n : Nat) : Nat := min 255 (n + 1)

/-- The pallet becomes UNRESOLVED (R58). -/
def unresolvePallet (p : Pallet) (s : State) : State := post .unresolved (setPallet (p.unresolvedAt s.clock) s)

/-- The verdict of a departure record (R159). -/
def verdictOf (p : Pallet) : Verdict :=
  if p.overridden then .overridden
  else match p.status with
    | .normal => .normal
    | .warning => .warning
    | .over => .over

/-- The departure record of a pallet (R157). -/
def departureOf (p : Pallet) (d : DoorId) (trailer now : Nat) : Departure :=
  { tag := p.tag, cls := p.cls, account := p.account, peak := p.peak, verdict := verdictOf p, estimated := p.estimated,
    arrived := p.arrived, departed := now, trailer := trailer, moves := nextMove p.moves,
    history := pushEntry p.history (.at (.trailer d), now) }

/-- The pallet closes into the door's manifest (R80, R158). -/
def closeInto (d : DoorId) (trailer : Nat) (p : Pallet) (s : State) : State :=
  let m := s.manifests.get d
  removePallet p (postIf m.isEmpty .manifestReady (s.putManifest d (m ++ [departureOf p d trailer s.clock])))

/-- The completion of a load move (R80). -/
def completeAtDoor (d : DoorId) (p : Pallet) (s : State) : Served :=
  let trailer := ((s.doors.get d).assignment.map Assignment.trailer).getD 0
  if takesOutbound s d then answer .ok (u8 6 ++ u8 (d.val + 1)) (closeInto d trailer p s)
  else answer .ok (locationBytes .unresolved) (unresolvePallet { p with moves := nextMove p.moves } s)

/-- The destination's effects (R78, R79, R80). -/
def completeAt (dest : Dest) (p : Pallet) (s : State) : Served :=
  let q := { p with moves := nextMove p.moves }
  match dest with
  | .lane l => answer .ok (placeBytes (.lane l)) (placePallet (.lane l) q s)
  | .bulk z =>
      if zoneUsed s z then answer .ok (placeBytes (.bulk z)) (placePallet (.bulk z) q s)
      else answer .ok (locationBytes .unresolved) (unresolvePallet q s)
  | .door d => completeAtDoor d p s

/-- MOVE DONE (R77): the transit's reservation and hold go with its record. -/
def moveDoneBody (tag : Nat) (s : State) : Served :=
  if !tagOk tag then refuse .param s
  else match findPallet s tag with
    | none => refuse .notFound s
    | some p =>
        match p.location with
        | .transit t =>
            let r := completeAt t.dest p (endOverdue tag t s)
            (settle r.1, r.2)
        | _ => refuse .state s

def execMoveDone (p : Port) (tag : Nat) (s : State) : StepResult := serve p .moveDone (moveDoneBody tag) s

/-! ## MOVE CANCEL -/

/-- The origin takes the pallet back (R83, R84). -/
def originTakes (s : State) : Place → Bool
  | .lane _ => true
  | .trailer d => takesInbound s d
  | .bulk z => zoneUsed s z

/-- A pallet rejoins its lane at the head (R83). -/
def rejoinLane (l : LaneId) (tag : Nat) (s : State) : State := s.putLane l (tag :: s.lanes.get l)

/-- The pallet stands at its origin again, with no history entry pushed (R82). -/
def returnTo (w : Place) (p : Pallet) (s : State) : State :=
  let t := setPallet { p with location := .at w } s
  match w with
  | .lane l => rejoinLane l p.tag t
  | .trailer _ => t
  | .bulk _ => t

/-- The end of a cancelled transit (R82 to R84). -/
def cancelTransit (p : Pallet) (t : Transit) (s : State) : Served :=
  if originTakes s t.origin then answer .ok (placeBytes t.origin) (returnTo t.origin p s)
  else answer .ok (locationBytes .unresolved) (unresolvePallet p s)

/-- MOVE CANCEL (R82). -/
def moveCancelBody (tag : Nat) (s : State) : Served :=
  if !tagOk tag then refuse .param s
  else match findPallet s tag with
    | none => refuse .notFound s
    | some p =>
        match p.location with
        | .transit t =>
            let r := cancelTransit p t (endOverdue tag t s)
            (settle r.1, r.2)
        | _ => refuse .state s

def execMoveCancel (p : Port) (tag : Nat) (s : State) : StepResult := serve p .moveCancel (moveCancelBody tag) s

/-! ## Reading a lane (R64) -/

/-- LANE READ's payload, in the order of R64's list (R188; notes/assumptions/7.md). -/
def laneReadBytes (s : State) (l : LaneId) : List Byte :=
  let e := laneEntry s l
  let q := s.lanes.get l
  u8 (e.zone.val + 1) ++ u16 e.capacity ++
  u16 q.length ++ u16 (inboundReservations s l) ++ u16 (originHolds s l) ++ u16 (e.capacity - placesInUse s l) ++
  u8 q.length ++ q.flatMap u32

def laneReadBody (lane : Nat) (s : State) : Served :=
  match lane? lane with
  | none => refuse .param s
  | some l => answer .ok (laneReadBytes s l) s

def execLaneRead (p : Port) (lane : Nat) (s : State) : StepResult := serve p .laneRead (laneReadBody lane) s

end Sys2Proof.Machine
end

