-- ==== Sys2Proof/Machine/Manifests.lean ====
section
/-! DEFINITION. The warehouse party's reading and emptying of manifests (chapter 8): MANIFEST TAKE (R161) and MANIFEST ACCEPT (R162,
R163). -/

namespace Sys2Proof.Machine

/-- The walk of a TAKE: at most `n` records from the head, stopping after a flagged one (R161). -/
def takeWalk : Nat → List Departure → List Departure
  | 0, _ => []
  | _ + 1, [] => []
  | n + 1, r :: rest => r :: (if r.flagged then [] else takeWalk n rest)

/-- STOPPED when the last record returned is flagged (R161). -/
def takeResult (rs : List Departure) : Result := if rs.any Departure.flagged then .stopped else .ok

/-- MANIFEST TAKE's payload (R161, R188). -/
def takePayload (s : State) (d : DoorId) (rs : List Departure) : List Byte :=
  u8 (d.val + 1) ++ u8 (manifestSize s d) ++ u8 (poolRecords s) ++ u8 (loadReservations s) ++ u8 rs.length ++
  rs.flatMap departureBytes

/-- MANIFEST TAKE (R161): it changes no state. -/
def manifestTakeBody (door : Nat) (s : State) : Served :=
  match door? door with
  | none => refuse .param s
  | some d =>
      let rs := takeWalk 3 (s.manifests.get d)
      answer (takeResult rs) (takePayload s d rs) s

def execManifestTake (p : Port) (door : Nat) (s : State) : StepResult := serve p .manifestTake (manifestTakeBody door) s

/-- The first n records leave the head; an emptied manifest may make the door ready for release (R162, R163). -/
def acceptRecords (d : DoorId) (n : Nat) (s : State) : State :=
  judgeReleaseReady d (s.putManifest d ((s.manifests.get d).drop n))

/-- MANIFEST ACCEPT (R162). The answer carries the number of records left. -/
def manifestAcceptBody (door n confirm : Nat) (s : State) : Served :=
  match door? door, flag? confirm with
  | some d, some ok =>
      if !(1 ≤ n && n ≤ 3) then refuse .param s
      else if manifestSize s d < n then refuse .param s
      else if !ok && ((s.manifests.get d).take n).any Departure.flagged then refuse .pending s
      else answer .ok (u16 (manifestSize s d - n)) (acceptRecords d n s)
  | _, _ => refuse .param s

def execManifestAccept (p : Port) (door n confirm : Nat) (s : State) : StepResult :=
  serve p .manifestAccept (manifestAcceptBody door n confirm) s

end Sys2Proof.Machine
end

