-- ==== Sys2Proof/Machine/Alarms.lean ====
section
/-! DEFINITION. Acknowledgement (R173), the alarm test (R174), ALARM LIST (R175), POLL (R177) and NOTICE MASK (R178). Raise and clear stand
in Machine/Ops.lean. -/

namespace Sys2Proof.Machine

/-! ## Acknowledgement (R173) -/

/-- An entry after its acknowledgement; none where it is removed. -/
def AlarmEntry.acked (e : AlarmEntry) : Option AlarmEntry :=
  match e.state with
  | .activeUnacked => some { e with state := .activeAcked }
  | .clearedUnacked => none
  | .activeAcked => some e

/-- Acknowledge the entries that `sel` picks. -/
def ackEntries (sel : AlarmEntry → Bool) (es : List AlarmEntry) : List AlarmEntry :=
  es.filterMap fun e => if sel e then e.acked else some e

/-- How many picked entries become ACTIVE-ACKED. -/
def ackedCount (sel : AlarmEntry → Bool) (es : List AlarmEntry) : Nat :=
  (es.filter fun e => sel e && e.state == .activeUnacked).length

/-- How many picked entries are removed. -/
def ackRemoved (sel : AlarmEntry → Bool) (es : List AlarmEntry) : Nat :=
  (es.filter fun e => sel e && e.state == .clearedUnacked).length

/-- The list after an acknowledgement: the marker is cleared where fewer than 48 entries are left (R172, R173). -/
def AlarmList.ack (a : AlarmList) (sel : AlarmEntry → Bool) : AlarmList :=
  let es := ackEntries sel a.entries
  { a with entries := es, overflow := a.overflow && !(es.length < Config.maxAlarms) }

/-- An acknowledgement and its answer: entries acknowledged, removed and left (R173). -/
def acknowledge (sel : AlarmEntry → Bool) (s : State) : Served :=
  let a := s.alarms.ack sel
  answer .ok
    (u16 (ackedCount sel s.alarms.entries) ++ u16 (ackRemoved sel s.alarms.entries) ++ u16 a.entries.length)
    (commitAlarms (a, decide (a ≠ s.alarms)) s)

/-- ALARM ACK ONE (R173). -/
def alarmAckOneBody (kind subject : Nat) (s : State) : Served :=
  match alarmKind? kind with
  | none => refuse .param s
  | some k =>
      match k.subject? subject with
      | none => refuse .param s
      | some sub =>
          if (s.alarms.find k sub).isNone then refuse .notFound s
          else acknowledge (AlarmEntry.isFor k sub) s

def execAlarmAckOne (p : Port) (kind subject : Nat) (s : State) : StepResult := serve p .alarmAck (alarmAckOneBody kind subject) s

/-- ALARM ACK ALL (R173): an empty list is accepted. -/
def alarmAckAllBody (s : State) : Served := acknowledge (fun _ => true) s

def execAlarmAckAll (p : Port) (s : State) : StepResult := serve p .alarmAck alarmAckAllBody s

/-! ## The alarm test (R174) -/

def setTest (t : Option Nat) (s : State) : State := s.setAlarms { s.alarms with test := t }

/-- ALARM TEST: the timer starts, or starts again, at 10 s. -/
def alarmTestBody (s : State) : Served := answer .ok [] (setTest (some Config.testSeconds) s)

def execAlarmTest (p : Port) (s : State) : StepResult := serve p .alarmTest alarmTestBody s

/-- ALARM_TEST_EXPIRY (R174): the timer reaches 0 and stops. -/
def execAlarmTestExpiry (s : State) : StepResult := whenPowered (setTest none) s

/-! ## Reading the list (R175) -/

/-- The entries of a page. -/
def pageEntries (a : AlarmList) (page : Nat) : List AlarmEntry := (a.entries.drop (16 * page)).take 16

/-- ALARM LIST's payload (R175, R188). -/
def alarmListBytes (s : State) (page : Nat) : List Byte :=
  let es := pageEntries s.alarms page
  u8 s.alarms.entries.length ++
  u8 (bitsByte [s.alarms.overflow, alarmOutput s, s.alarms.test.isSome]) ++
  u16 s.alarms.seq ++ u8 es.length ++ es.flatMap alarmEntryBytes

def alarmListBody (page : Nat) (s : State) : Served :=
  if 2 < page then refuse .param s else answer .ok (alarmListBytes s page) s

def execAlarmList (p : Port) (page : Nat) (s : State) : StepResult := serve p .alarmList (alarmListBody page) s

/-! ## Notices -/

/-- A notice set's two bytes (R188). -/
def noticeBytes (n : NoticeSet) : List Byte := u16 n.toNat

/-- POLL (R177): the pending set is answered and emptied at the one event. -/
def pollBody (p : Port) (s : State) : Served :=
  answer .ok (noticeBytes (s.port p).pending) (s.modPort p fun r => { r with pending := 0 })

def execPoll (p : Port) (s : State) : StepResult := serve p .poll (pollBody p) s

/-- NOTICE MASK (R178). -/
def noticeMaskBody (p : Port) (set : NoticeSet) (s : State) : Served :=
  answer .ok (noticeBytes set) (s.modPort p fun r => { r with enable := set, pending := r.pending &&& set })

def execNoticeMask (p : Port) (set : NoticeSet) (s : State) : StepResult := serve p .noticeMask (noticeMaskBody p set) s

end Sys2Proof.Machine
end

