-- ==== Sys2Proof/Machine/Silence.lean ====
section
/-! DEFINITION. The silence timer's expiry (R184) with plant silence (R149), PORT STATUS (R185) and IDENTIFY (R186). -/

namespace Sys2Proof.Machine

/-- The count reaches the limit: the timer stops, PARTY SILENT is raised, and at Port P the plant silence takes place (R184).
PARTY SILENT is raised before the plant silence clears DEFROST DEFERRED alarms (DESIGN CHOICE, notes/assumptions/31.md). -/
def fallSilent (p : Port) (s : State) : State :=
  let limit := silenceLimit s p
  let t := raise .partySilent (.port p)
    (s.modPort p fun r => { r with silence := (countTo r.silence limit).stop, silent := true })
  settle (if p = .plant then plantSilence t else t)

/-- An expiry exists only while the timer runs. -/
def silenceExpires (p : Port) (s : State) : State := if (s.port p).silence.running then fallSilent p s else s

/-- SILENCE_TIMER_EXPIRY (R184). -/
def execSilenceTimerExpiry (p : Port) (s : State) : StepResult := whenPowered (silenceExpires p) s

/-- The running count judged against the limit in force: due at or above it (R184, R187). -/
def judgeSilence (p : Port) (s : State) : State :=
  if silenceLimit s p ≤ (s.port p).silence.count then silenceExpires p s else s

/-- PORT STATUS's payload, in the order of R185's list; each 'whether' of the list is sent as a flag, 1 where so (R188; DEDUCED,
notes/assumptions/7.md). -/
def portStatusBytes (s : State) (q : Port) : List Byte :=
  let r := s.port q
  u8 (portCode q) ++ u8 r.rx.state.code ++ flagBytes r.responding ++
  flagBytes r.lengthBit ++ flagBytes r.crcBit ++ flagBytes r.overrunBit ++ u16 r.crcErrors ++
  u16 r.silence.count ++ flagBytes r.silence.running ++ u16 (silenceLimit s q) ++ flagBytes r.silent ++
  noticeBytes r.enable ++ noticeBytes r.pending

/-- The clear option's effect (R185). -/
def PortRecord.cleaned (r : PortRecord) : PortRecord :=
  { r with lengthBit := false, crcBit := false, overrunBit := false, crcErrors := 0 }

/-- PORT STATUS (R185): the answer shows the values before the clear. -/
def portStatusBody (p : Port) (named clear : Nat) (s : State) : Served :=
  match port? named, flag? clear with
  | some q, some b =>
      if b && q != p then refuse .param s
      else answer .ok (portStatusBytes s q) (if b then s.modPort q PortRecord.cleaned else s)
  | _, _ => refuse .param s

def execPortStatus (p : Port) (named clear : Nat) (s : State) : StepResult :=
  serve p .portStatus (portStatusBody p named clear) s

/-- IDENTIFY's block (R186). -/
def identifyBytes (s : State) (p : Port) : List Byte :=
  u16 Config.vendorCode ++ u16 Config.partCode ++ u8 Config.revision ++
  u16 8 ++ u16 24 ++ u16 32 ++ u16 Config.maxPallets ++ u16 Config.maxTransits ++ u16 Config.maxDepartures ++
  u16 Config.maxAlarms ++ u8 (portCode p) ++ flagBytes (s.power == .running)

def identifyBody (p : Port) (s : State) : Served := answer .ok (identifyBytes s p) s

def execIdentify (p : Port) (s : State) : StepResult := serve p .identify (identifyBody p) s

end Sys2Proof.Machine
end

