-- ==== Sys2Proof/Machine/ProfileEdit.lean ====
section
/-! DEFINITION. The Profile Store while the part runs (sections 11.1 to 11.3): PROFILE READ (R190), PROFILE SET with its checks (R191,
R192, R65) and what each family's edit does in the owning blocks (R18 to R20, R39, R40, R115, R116, R150, R151, R184), and the save
(R193). -/

namespace Sys2Proof.Machine

/-- An entry as it stands in the working copy: the index, then the fields (R190). -/
def entryBytes (s : State) (i : Fin 81) : List Byte := u8 i.val ++ paramsBytes (s.profile.params (entryId i))

/-- PROFILE READ (R190). -/
def profileReadBody (index : Nat) (s : State) : Served :=
  match entryIndex? index with
  | none => refuse .param s
  | some i => answer .ok (entryBytes s i) s

def execProfileRead (p : Port) (index : Nat) (s : State) : StepResult := serve p .profileRead (profileReadBody index) s

/-! ## Check 4 of R191: the owning blocks (R192) -/

/-- The zone is in use: its kind may not change (R192). -/
def zoneInUse (s : State) (z : ZoneId) : Bool :=
  allDoors.any (fun d => (doorEntry s d).enabled && doorZone s d == z) ||
  allLanes.any (fun l => 0 < (laneEntry s l).capacity && laneZone s l == z) ||
  palletsInZone s z != 0 || unitState s z != .idle

/-- VACANT, DISABLED or LOST (R192). -/
def DoorState.rests : DoorState → Bool
  | .vacant | .disabled | .lost => true
  | _ => false

/-- The lane holds no pallets, no reservations and no holds (R65). -/
def laneEmpty (s : State) (l : LaneId) : Bool := placesInUse s l == 0

/-- R65, in the order of its table (DEDUCED, notes/assumptions/20.md). -/
def laneRefusal (s : State) (l : LaneId) (new : LaneEntry) : Option Result :=
  if new.capacity < placesInUse s l then some .inUse
  else if new.zone ≠ laneZone s l ∧ !laneEmpty s l then some .inUse
  else if 0 < new.capacity ∧ !zoneUsed s new.zone then some .param
  else none

/-- R192: what the owning block answers to an edit that makes the working copy `pr`. -/
def editRefusal (s : State) (pr : Profile) : EntryId → Option Result
  | .zone z => if (pr.zones.get z).kind ≠ (zoneEntry s z).kind ∧ zoneInUse s z then some .inUse else none
  | .door d =>
      let new := pr.doors.get d
      let old := doorEntry s d
      if (new.enabled ≠ old.enabled ∨ new.zone ≠ old.zone) ∧ !(doorState s d).rests then some .inUse else none
  | .lane l => laneRefusal s l (pr.lanes.get l)
  | .cls _ => none
  | .global => if pr.global.maxConcurrent < slotsInUse s then some .inUse else none

/-! ## Zone edits -/

/-- A probe of a zone edited to UNUSED (R20); its last sample stays (DESIGN CHOICE, notes/assumptions/17.md). -/
def Probe.retired (p : Probe) : Probe := { p with state := .ok, bad := 0, good := 0, history := [], filtered := none }

def clearCondition (z : ZoneId) (k : ConditionKind) (s : State) : State :=
  if ((s.zones.get z).condition k).state = .active then clear (conditionAlarm k) (.zone z) s else s

def clearProbe (z : ZoneId) (k : ProbeKind) (s : State) : State :=
  if ((s.zones.get z).probe k).state = .fault then clear (probeAlarm k) (.zone z) s else s

/-- A used zone becomes UNUSED (R20). -/
def retireZone (z : ZoneId) (s : State) : State :=
  let t := clearProbe z .coil (clearProbe z .air
    (clearCondition z .low (clearCondition z .high (clearCondition z .highWarn s))))
  let r := s.zones.get z
  t.putZone z ⟨r.air.retired, r.coil.retired, .initial, .initial, .initial⟩

/-- A zone-kind edit (R20); it posts ZONE CHANGE once. -/
def zoneKindEdit (z : ZoneId) (old new : ZoneKind) (s : State) : State :=
  if old = new then s
  else post .zoneChange
    (if new = .unused then retireZone z s else if old = .unused then s.putZone z .initial else s)

/-- The edit changes one of the four values of R18. -/
def limitsChanged (old new : ZoneEntry) : Bool :=
  old.highWarn != new.highWarn || old.highAlarm != new.highAlarm || old.lowAlarm != new.lowAlarm ||
  old.alarmDelay != new.alarmDelay

/-- A PENDING timer starts again from 0 (R18). -/
def Condition.restarted (c : Condition) : Condition := if c.state = .pending then { c with timer := 0 } else c

/-- R18: the restart, then the evaluation against the new limits. -/
def zoneLimitEdit (z : ZoneId) (s : State) : State :=
  let r := s.zones.get z
  evalConditions z (s.putZone z
    { r with highWarn := r.highWarn.restarted, high := r.high.restarted, low := r.low.restarted })

/-- The phase timer of a unit in state `st` is at or above a limit. -/
def phaseDue (s : State) (z : ZoneId) (st : UnitState) (limit : Nat) : Bool :=
  phaseRuns s z st && limit ≤ (s.units.get z).phase.count

/-- R151, in the order of its table. An edit cannot leave more than one of these due at one unit, but for max heat before the coil
test (DESIGN CHOICE, notes/assumptions/12.md; DEDUCED, notes/assumptions/14.md). -/
def defrostTimingEdit (z : ZoneId) (s : State) : State :=
  let e := zoneEntry s z
  let u := s.units.get z
  if phaseDue s z .pumpdown e.pumpdownTimeout then pumpdownTimesOut z s
  else if phaseDue s z .heat (heatLimit e) then heatTimesOut z s
  else if u.state = .heat then testCoil z s
  else if phaseDue s z .drip (dripLimit e) then dripTimesOut z s
  else if phaseDue s z .recover (recoveryLimit e) then recoveryTimesOut z s
  else if u.state = .recover then testRecovery z s
  else if u.state = .requested ∧ !u.urgent ∧ u.deferral.running ∧ deferralLimit e ≤ u.deferral.count then deferralTimesOut z s
  else s

/-- The effects of an accepted zone edit; the working copy already holds the new entry. -/
def zoneEdited (z : ZoneId) (old new : ZoneEntry) (s : State) : State :=
  let t := zoneKindEdit z old.kind new.kind s
  let u := if limitsChanged old new then zoneLimitEdit z t else t
  defrostTimingEdit z u

/-! ## Door edits -/

/-- The door enters DISABLED (R116). -/
def disableDoor (d : DoorId) (s : State) : State :=
  unresolveAboard d (changeDoor d (fun r =>
    { r with state := .disabled, assignment := none, lossOrigin := none, sealTimer := r.sealTimer.stop,
             lossTimer := r.lossTimer.stop })
    (endForced d (endBreach d (leaveWait d (leaveOpen d s)))))

/-- A DISABLED door comes into service: it enters LOST (R101) with loss origin none (R116). -/
def enableDoor (d : DoorId) (s : State) : State := changeDoor d (DoorRecord.losing none) s

/-- R116, by whether the door is in service under the new entry. -/
def doorServiceEdit (d : DoorId) (s : State) : State :=
  if inService s d then (if doorState s d = .disabled then enableDoor d s else s)
  else if doorState s d = .disabled then s else disableDoor d s

/-- R115: running timers are judged against the new delays (DEDUCED, notes/assumptions/14.md). Where the loss delay and the max open time of
an OPEN door are both due, the loss is taken first: the door is in BREACH and DOOR OPEN LONG is not raised (DESIGN CHOICE,
notes/assumptions/12.md). -/
def doorTimingEdit (d : DoorId) (s : State) : State :=
  let e := doorEntry s d
  let r := s.doors.get d
  let t := if r.state = .sealing ∧ r.sealTimer.running ∧ e.sealDelay ≤ r.sealTimer.count then becomeSealed d s else s
  let u := if r.lossTimer.running ∧ e.lossDelay ≤ r.lossTimer.count then sealExpires d t else t
  if doorState u d = .opened ∧ r.openTimer.running ∧ 60 * e.maxOpenTime ≤ r.openTimer.count ∧ !r.openLong then
    beginOpenLong d u
  else u

/-- The effects of an accepted door edit. -/
def doorEdited (d : DoorId) (s : State) : State := judgeLoopEdit (doorTimingEdit d (doorServiceEdit d s))

/-! ## The edit -/

/-- What the owning blocks do at an accepted edit; the working copy already holds the new entry (R192). A global edit judges the silence
counts of P, D and W in that order (DESIGN CHOICE, notes/assumptions/9.md) and before the grant judgment (DESIGN CHOICE,
notes/assumptions/12.md). -/
def edited (old : Profile) (id : EntryId) (s : State) : State :=
  match id with
  | .zone z => zoneEdited z (old.zones.get z) (zoneEntry s z) s
  | .door d => doorEdited d s
  | .lane _ => s
  | .cls c => judgeClass c (old.classes.get c) (classEntry s c) s
  | .global => forEach allPorts judgeSilence s

/-- An accepted PROFILE SET: the entry is replaced, the owning blocks act, PROFILE CHANGED is posted; a changed limit, count, class or
concurrency may serve a queue or grant a defrost (R113, R140, R152). -/
def applyEdit (pr : Profile) (id : EntryId) (s : State) : State :=
  post .profileChanged (settle (edited s.profile id (s.setProfile pr)))

/-- PROFILE SET (R191). The entry now in force is answered as PROFILE READ sends it, its index first (DEDUCED,
notes/assumptions/7.md). -/
def profileSetBody (index : Nat) (params : EntryParams) (s : State) : Served :=
  match entryIndex? index with
  | none => refuse .param s
  | some i =>
      let clamped := clampParams params
      match s.profile.install (entryId i) clamped with
      | none => refuse .param s
      | some pr =>
          if s.store.saving.isSome then refuse .busy s
          else if !paramsOrdered clamped then refuse .param s
          else match editRefusal s pr (entryId i) with
            | some r => refuse r s
            | none =>
                let t := applyEdit pr (entryId i) s
                answer (if clamped = params then .ok else .clamped) (entryBytes t i) t

def execProfileSet (p : Port) (index : Nat) (params : EntryParams) (s : State) : StepResult :=
  serve p .profileSet (profileSetBody index params) s

/-! ## The save (R193) -/

/-- PROFILE SAVE: the Profile Store is SAVING from index 0. -/
def profileSaveBody (s : State) : Served :=
  if s.store.saving.isSome then refuse .busy s else answer .ok [] (s.setStore { s.store with saving := some 0 })

def execProfileSave (p : Port) (s : State) : StepResult := serve p .profileSave profileSaveBody s

/-- The index after an entry; none after the last. -/
def nextEntry (i : Fin 81) : Option (Fin 81) := entryIndex? (i.val + 1)

/-- One entry is written and read back. An entry that does not read back as it was written raises PROFILE FAULT, also where the check code would
correct it (DESIGN CHOICE, notes/assumptions/5.md); after the last entry PROFILE SAVED is posted. -/
def writeEntry (readBack : Option StoredEntry) (s : State) : State :=
  match s.store.saving with
  | none => s
  | some i =>
      let written := StoredEntry.fits (s.profile.params (entryId i))
      let value := readBack.getD written
      let t := s.setStore ⟨s.store.entries.put i value, nextEntry i⟩
      let u := if value ≠ written then raise .profileFault (.entry i.val) t else t
      postIf (nextEntry i).isNone .profileSaved u

/-- SAVE_ENTRY_WRITE (R193). -/
def execSaveEntryWrite (readBack : Option StoredEntry) (s : State) : StepResult := whenRunning (writeEntry readBack) s

end Sys2Proof.Machine
end

