-- ==== Sys2Proof/Machine/Startup.lean ====
section
/-! DEFINITION. The Backup Supervisor and start-up (chapter 11): the loss of main power and the marker (R196), the load of the profile
(R194) with the start-up work of every block (R41 to R43, R60, R85, R86, R117, R132, R187), the dock clock with TIME READ and TIME SET
(R195), and the start-up report (R197). -/

namespace Sys2Proof.Machine

/-! ## Losing power and starting -/

/-- A save of the working copy `pr` ends where it stands: the entry being written keeps its old contents, holds the new, or is torn, with a
check code that fits neither (R193). -/
def Store.cut (st : Store) (pr : Profile) (write : WriteCut) : Store :=
  match st.saving, write with
  | none, _ => st
  | some _, .kept => ⟨st.entries, none⟩
  | some i, .written => ⟨st.entries.put i (.fits (pr.params (entryId i))), none⟩
  | some i, .torn => ⟨st.entries.put i .bad, none⟩

/-- A door record with R87's start-up values and its retained assignment. -/
def DoorRecord.kept (r : DoorRecord) : DoorRecord := .initial .disabled r.assignment

/-- Everything but retained memory and the nonvolatile store takes its start-up value (R196, and R4, R21, R87, R122, R153, R167, R187). -/
def keepRetained (write : WriteCut) (s : State) : State :=
  { State.cold with
    pending := s.pending, marker := s.marker, clock := s.clock, clockValid := s.clockValid,
    exposure := ⟨none, 0, s.exposure.lastStamp⟩, pallets := s.pallets, lanes := s.lanes,
    doors := s.doors.map DoorRecord.kept, manifests := s.manifests, store := s.store.cut s.profile write }

/-- Main power is lost, and a save ends at once (DESIGN CHOICE, notes/assumptions/26.md); a second loss finds nothing to lose (DESIGN CHOICE,
notes/assumptions/11.md). -/
def losePower (write : WriteCut) (s : State) : State :=
  if s.power = .off then s else { keepRetained write s with power := .off }

/-- MAIN_POWER_LOSS (R196). -/
def execMainPowerLoss (write : WriteCut) (s : State) : StepResult := .next (losePower write s)

/-- The backup supply falls below the retention limit while main power is absent (R196). -/
def loseBackup (s : State) : State := if s.power = .off then { s with marker := false } else s

/-- BACKUP_SUPPLY_LOW (R196). -/
def execBackupSupplyLow (s : State) : StepResult := .next (loseBackup s)

/-- A start-up with the marker cleared: every retained collection is emptied, the clock stands at 0, and RETENTION LOST is raised
(R196). -/
def startEmpty (write : WriteCut) (s : State) : State :=
  raise .retentionLost .none { State.cold with pending := s.pending, store := s.store.cut s.profile write }

/-- A start-up with the marker valid: the retained collections are kept as they stood (R196). -/
def startKept (write : WriteCut) (s : State) : State :=
  { keepRetained write s with marker := true, report := { State.cold.report with kept := true } }

/-- The marker is judged before any block begins its start-up work (R196). -/
def startUp (write : WriteCut) (s : State) : State := if s.marker then startKept write s else startEmpty write s

/-- START_UP (R196). -/
def execStartUp (write : WriteCut) (s : State) : StepResult := .next (startUp write s)

/-! ## The load (R194) -/

/-- How an entry is counted. -/
inductive LoadKind where
  | loaded | corrected | blank | defaulted
  deriving DecidableEq, Repr

/-- Every value lies in its range and a zone entry is ordered (R191, R194). -/
def paramsInRange (e : EntryParams) : Bool := clampParams e == e && paramsOrdered e

/-- Judge one entry as read: the working copy after it, and how it is counted (DEDUCED, notes/assumptions/19.md). -/
def loadEntry (id : EntryId) (e : StoredEntry) (pr : Profile) : Profile × LoadKind :=
  let take := fun (p : EntryParams) (k : LoadKind) =>
    match pr.install id p with
    | some pr' => if paramsInRange p then (pr', k) else (pr, .defaulted)
    | none => (pr, .defaulted)
  match e with
  | .erased => (pr, .blank)
  | .fits p => take p .loaded
  | .oneBit p => take p .corrected
  | .bad => (pr, .defaulted)

/-- What an entry held reads as where the memory gives `read`: a torn entry stays torn (R193), and a single-bit error stays with its entry
(R194) unless another joins it. -/
def readsAs (held read : StoredEntry) : StoredEntry :=
  match held with
  | .bad => .bad
  | .oneBit e => if read = .bad then .bad else .oneBit e
  | _ => read

/-- The entry as it reads: what the store holds, or what an error of the memory makes of it. -/
def entryAsRead (s : State) (reads : List (Nat × StoredEntry)) (i : Fin 81) : StoredEntry :=
  let held := s.store.entries.get i
  match reads.lookup i.val with
  | none => held
  | some read => readsAs held read

/-- The load so far. -/
structure Load where
  profile : Profile
  kinds : List LoadKind
  faults : List Nat
  deriving DecidableEq, Repr

/-- The working copy is loaded entry by entry, in index order, over the defaults. -/
def loadAll (s : State) (reads : List (Nat × StoredEntry)) : Load :=
  (List.finRange 81).foldl (fun acc i =>
    let r := loadEntry (entryId i) (entryAsRead s reads i) acc.profile
    ⟨r.1, acc.kinds ++ [r.2], if r.2 = .defaulted then acc.faults ++ [i.val] else acc.faults⟩) ⟨.default, [], []⟩

def Load.countOf (l : Load) (k : LoadKind) : Nat := (l.kinds.filter fun x => x == k).length

/-- The store keeps an entry's error until a PROFILE SAVE writes the entry again (R194). -/
def keepReads (reads : List (Nat × StoredEntry)) (s : State) : State :=
  s.setStore { s.store with entries := Bank.ofFn (entryAsRead s reads) }

/-- The load completes: the working copy, the counts, the PROFILE FAULT raises by rising index, and the loaded silence limits on the running
counts of P, D and W in that order (R187, R194, R197; DESIGN CHOICE of the orders, notes/assumptions/9.md). -/
def finishLoad (l : Load) (s : State) : State :=
  let t := (s.setProfile l.profile)
  let u := { t with
    power := .running
    report := { s.report with
      loaded := l.countOf .loaded, corrected := l.countOf .corrected, blank := l.countOf .blank,
      defaulted := l.countOf .defaulted } }
  forEach allPorts judgeSilence (forEach l.faults (fun i => raise .profileFault (.entry i)) u)

/-! ## Start-up work -/

/-- R60: every transit is discarded and its pallet becomes UNRESOLVED; the reservations and holds go with the transit records. -/
def convertTransits (s : State) : State := unresolveWhere (fun p => p.transit?.isSome) s

/-- The pallet stands in a lane or a bulk store whose zone is UNUSED (R86). -/
def inUnusedZone (s : State) (p : Pallet) : Bool :=
  match p.location with
  | .at (.lane l) => !zoneUsed s (laneZone s l)
  | .at (.bulk z) => !zoneUsed s z
  | _ => false

/-- R86: such pallets become UNRESOLVED and leave their lanes. -/
def unresolveUnused (s : State) : State :=
  let t := unresolveWhere (inUnusedZone s) s
  t.setLanes (Bank.ofFn fun l => if zoneUsed s (laneZone s l) then s.lanes.get l else [])

/-- The lane holds more pallets than its loaded capacity (R85). -/
def laneOverfull (s : State) (l : LaneId) : Bool := (laneEntry s l).capacity < (s.lanes.get l).length

/-- R85: the working capacity of such a lane is raised to its pallets. -/
def raiseLanes (s : State) : State :=
  let lanes := Bank.ofFn fun l =>
    if laneOverfull s l then { laneEntry s l with capacity := (s.lanes.get l).length } else laneEntry s l
  postIf (allLanes.any (laneOverfull s)) .profileChanged (s.setProfile { s.profile with lanes := lanes })

/-- R117: a door in service is LOST with its retained assignment; any other is DISABLED and its pallets aboard become UNRESOLVED. No
permit is handed to the Door Loop Master. (DEDUCED: no DOOR CHANGE, notes/assumptions/18.md.) -/
def startDoor (d : DoorId) (s : State) : State :=
  if inService s d then setPermit d false (s.putDoor d (.initial .lost (s.doors.get d).assignment))
  else unresolveAboard d (setPermit d false (s.putDoor d (.initial .disabled none)))

/-- The Door Supervisor's start-up states: every door's, with every wait queue empty (R117). -/
def startDoors (s : State) : State := forEach allDoors startDoor (s.setWaits (Bank.fill []))

/-- The Exposure Counter and the tables, with retained collections: catch-up, transit conversion, lane work, in that order (R41, R60, R85,
R86). The report takes the outage the catch-up charged (R197). -/
def retainedWork (s : State) : State :=
  let t := { s with report := { s.report with outage := if s.report.kept then outageOf s else 0 } }
  raiseLanes (unresolveUnused (convertTransits (catchUp t)))

/-- The load completes and every block does its start-up work; the start-up addressing run begins last (R132). With the marker cleared the
tables are empty, and the work finds nothing to charge or convert. So a PARTY SILENT that the loaded limits cause reaches the Alarm List
before the catch-up's PALLET OVER and DWELL EXCEEDED (DESIGN CHOICE, notes/assumptions/9.md). -/
def completeLoad (reads : List (Nat × StoredEntry)) (s : State) : State :=
  if s.power = .loading then
    beginRun (startDoors (retainedWork (finishLoad (loadAll s reads) (keepReads reads s))))
  else s

/-- PROFILE_LOAD_COMPLETE (R194). -/
def execProfileLoadComplete (reads : List (Nat × StoredEntry)) (s : State) : StepResult := .next (completeLoad reads s)

/-! ## The dock clock (R195) -/

/-- DOCK_CLOCK_TICK: the clock runs whether or not main power is present. -/
def execDockClockTick (s : State) : StepResult := .next { s with clock := (s.clock + 1) % Config.clockModulus }

/-- The start-up report (R197, R188). -/
def reportBytes (r : StartReport) : List Byte :=
  u8 (if r.kept then 0 else 1) ++ u32 r.outage ++ u16 r.loaded ++ u16 r.corrected ++ u16 r.blank ++ u16 r.defaulted

/-- TIME READ (R195): the clock, the clock-valid flag and the start-up report. -/
def timeReadBody (s : State) : Served := answer .ok (u32 s.clock ++ flagBytes s.clockValid ++ reportBytes s.report) s

def execTimeRead (p : Port) (s : State) : StepResult := serve p .timeRead timeReadBody s

/-- TIME SET (R195, R23): clock, clock-valid and last accrual stamp at one event. -/
def setClock (v : Nat) (s : State) : State :=
  post .clockSet { s with
    clock := v % Config.clockModulus, clockValid := true,
    exposure := { s.exposure with lastStamp := v % Config.clockModulus } }

def timeSetBody (v : Nat) (s : State) : Served := answer .ok [] (setClock v s)

def execTimeSet (p : Port) (v : Nat) (s : State) : StepResult := serve p .timeSet (timeSetBody v) s

end Sys2Proof.Machine
end

