-- ==== Sys2Proof/Machine/Receive.lean ====
section
/-! DEFINITION. The receiver of a port (R180 to R182): bytes, the gap timer, the end of a response; and the reading of every request's
parameter bytes (section 10.6). A frame whose CRC matches is dispatched within the byte's own event. -/

namespace Sys2Proof.Machine

/-! ## Parameter forms (R188, section 10.6): none where the bytes do not match the request's form -/

/-- The effect a request has at a port. -/
abbrev Body := Port → State → Served

/-- No parameters. -/
def noParams (b : Body) : List Byte → Option Body
  | [] => some b
  | _ => none

/-- One byte. -/
def oneByte (f : Nat → Body) : List Byte → Option Body
  | [a] => some (f a.toNat)
  | _ => none

/-- Four bytes: a tag or a clock value. -/
def fourBytes (f : Nat → Body) : List Byte → Option Body
  | [a, b, c, d] => some (f (rd32 a b c d))
  | _ => none

def parseNoticeMask : List Byte → Option Body
  | [a, b] => some fun p => noticeMaskBody p (BitVec.ofNat 16 (rd16 a b))
  | _ => none

/-- ALARM ACK: selector ONE 1, ALL 2; any other is refused PARAM (R173; DESIGN CHOICE, notes/assumptions/10.md). -/
def parseAlarmAck : List Byte → Option Body
  | [sel, k, a, b, c, d] =>
      if sel = 1 then some fun _ => alarmAckOneBody k.toNat (rd32 a b c d)
      else if sel = 2 then some fun _ => alarmAckAllBody
      else none
  | _ => none

/-- PROFILE SET: the index, then the field bytes of its family (R190). -/
def parseProfileSet : List Byte → Option Body
  | [] => none
  | i :: bs =>
      match entryIndex? i.toNat with
      | none => none
      | some ix => (readParams (entryId ix) bs).map fun e => fun _ => profileSetBody i.toNat e

def parsePortStatus : List Byte → Option Body
  | [q, c] => some fun p => portStatusBody p q.toNat c.toNat
  | _ => none

def parseTrailerAssign : List Byte → Option Body
  | [d, a, b, c, e, dir] => some fun _ => trailerAssignBody d.toNat (rd32 a b c e) dir.toNat
  | _ => none

def parseArrive : List Byte → Option Body
  | [a, b, c, d, cls, door, e, f, g, h] =>
      some fun _ => arriveBody (rd32 a b c d) cls.toNat door.toNat (rd32 e f g h)
  | _ => none

/-- MOVE: the route count, then four route zones; those beyond the count are not read (DESIGN CHOICE, notes/assumptions/10.md). -/
def parseMove : List Byte → Option Body
  | [a, b, c, d, form, index, n, z1, z2, z3, z4, t, u] =>
      if n.toNat ≤ 4 then
        some fun _ => moveBody (rd32 a b c d) form.toNat index.toNat
          (([z1, z2, z3, z4].take n.toNat).map BitVec.toNat) (rd16 t u)
      else none
  | _ => none

def parseResolve : List Byte → Option Body
  | [a, b, c, d, form, index] => some fun _ => resolveBody (rd32 a b c d) form.toNat index.toNat
  | _ => none

/-- DISPOSE: option OVERRIDE 1, REMOVE 2; any other is refused PARAM (R52). -/
def parseDispose : List Byte → Option Body
  | [a, b, c, d, o] =>
      if o = 1 then some fun _ => disposeOverrideBody (rd32 a b c d)
      else if o = 2 then some fun _ => disposeRemoveBody (rd32 a b c d)
      else none
  | _ => none

/-- The ranges of a PURGE, eight bytes each. -/
def readRanges : List Byte → Option (List (Nat × Nat))
  | [] => some []
  | a :: b :: c :: d :: e :: f :: g :: h :: rest => (readRanges rest).map fun rs => (rd32 a b c d, rd32 e f g h) :: rs
  | _ => none

/-- PURGE: the length must match the range count (R188). -/
def parsePurge : List Byte → Option Body
  | [] => none
  | n :: bs =>
      match readRanges bs with
      | none => none
      | some rs => if rs.length = n.toNat then some fun _ => purgeBody rs else none

def parseAccept : List Byte → Option Body
  | [d, n, c] => some fun _ => manifestAcceptBody d.toNat n.toNat c.toNat
  | _ => none

/-- Check 4 of R183: a request's parameter bytes read by its form. -/
def parse (r : Req) : List Byte → Option Body :=
  match r with
  | .poll => noParams pollBody
  | .noticeMask => parseNoticeMask
  | .identify => noParams identifyBody
  | .timeRead => noParams fun _ => timeReadBody
  | .timeSet => fourBytes fun v _ => timeSetBody v
  | .zoneRead => oneByte fun z _ => zoneReadBody z
  | .doorRead => oneByte fun d _ => doorReadBody d
  | .laneRead => oneByte fun l _ => laneReadBody l
  | .palletRead => fourBytes fun t _ => palletReadBody t
  | .defrostRead => oneByte fun z _ => defrostReadBody z
  | .alarmList => oneByte fun g _ => alarmListBody g
  | .alarmAck => parseAlarmAck
  | .alarmTest => noParams fun _ => alarmTestBody
  | .profileRead => oneByte fun i _ => profileReadBody i
  | .profileSet => parseProfileSet
  | .profileSave => noParams fun _ => profileSaveBody
  | .portStatus => parsePortStatus
  | .defrostRequest => oneByte fun z _ => defrostRequestBody z
  | .pumpdownDone => oneByte fun z _ => pumpdownDoneBody z
  | .heatEnd => oneByte fun z _ => heatEndBody z
  | .defrostAbort => oneByte fun z _ => defrostAbortBody z
  | .trailerAssign => parseTrailerAssign
  | .doorOpen => oneByte fun d _ => doorOpenBody d
  | .doorClose => oneByte fun d _ => doorCloseBody d
  | .trailerRelease => oneByte fun d _ => trailerReleaseBody d
  | .loopRestart => noParams fun _ => loopRestartBody
  | .arrive => parseArrive
  | .move => parseMove
  | .moveDone => fourBytes fun t _ => moveDoneBody t
  | .moveCancel => fourBytes fun t _ => moveCancelBody t
  | .resolve => parseResolve
  | .dispose => parseDispose
  | .purge => parsePurge
  | .manifestTake => oneByte fun d _ => manifestTakeBody d
  | .manifestAccept => parseAccept

/-! ## Judging a frame (R181, R182, R183) -/

/-- A valid frame's CODE and parameters are dispatched; an unknown CODE is refused (R183, check 1). -/
def dispatchBytes (p : Port) (code : Byte) (params : List Byte) (s : State) : State :=
  match Req.ofCode? code with
  | none => respond p code ⟨.unknown, []⟩ s
  | some r => dispatch p r ((parse r params).map fun b => b p) s

/-- The receiver back in HUNT. -/
def PortRecord.hunt (r : PortRecord) : PortRecord := { r with rx := ⟨.hunt, 0, [], false⟩ }

/-- A CRC failure (R181). -/
def PortRecord.crcFailed (r : PortRecord) : PortRecord := { r with crcBit := true, crcErrors := min 255 (r.crcErrors + 1) }

/-- A complete frame: dropped with OVERRUN where its lead byte came while the port was responding (R182;
DEDUCED, notes/assumptions/16.md); dropped where the CRC fails
(R181); else taken and dispatched (R183, R184). -/
def judgeFrame (p : Port) (crc : Byte) (s : State) : State :=
  let rx := (s.port p).rx
  let t := s.modPort p PortRecord.hunt
  if rx.late then dropLate p t
  else if crc8 (BitVec.ofNat 8 rx.length :: rx.kept) ≠ crc then t.modPort p PortRecord.crcFailed
  else match rx.kept with
    | [] => t
    | code :: params => dispatchBytes p code params (takeFrame p t)

/-- A partial frame is dropped, and the LENGTH sticky bit is set (R180). -/
def PortRecord.dropFrame (r : PortRecord) : PortRecord := { r.hunt with lengthBit := true }

/-- A byte in COUNT (R180). -/
def PortRecord.takeCount (b : Byte) (r : PortRecord) : PortRecord :=
  if 1 ≤ b.toNat ∧ b.toNat ≤ 250 then { r with rx := { r.rx with state := .body, length := b.toNat, kept := [] } } else r.dropFrame

/-- A byte in BODY (R180). -/
def PortRecord.takeBody (b : Byte) (r : PortRecord) : PortRecord :=
  let kept := r.rx.kept ++ [b]
  { r with rx := { r.rx with kept := kept, state := if r.rx.length ≤ kept.length then .check else .body } }

/-- A byte in HUNT (R180). -/
def PortRecord.takeLead (b : Byte) (r : PortRecord) : PortRecord :=
  if b = Config.leadByte then { r with rx := ⟨.count, 0, [], r.responding⟩ } else r

/-- A byte arrives (R180). -/
def takeByte (p : Port) (b : Byte) (s : State) : State :=
  match (s.port p).rx.state with
  | .hunt => s.modPort p (PortRecord.takeLead b)
  | .count => s.modPort p (PortRecord.takeCount b)
  | .body => s.modPort p (PortRecord.takeBody b)
  | .check => judgeFrame p b s

/-- RECEIVE_BYTE (R180). -/
def execReceiveByte (p : Port) (b : Byte) (s : State) : StepResult := whenPowered (takeByte p b) s

/-- More than 10 ms pass within a frame: the gap timer runs in COUNT, BODY and CHECK (R180). -/
def gapExpires (p : Port) (s : State) : State :=
  if (s.port p).rx.state = .hunt then s else s.modPort p PortRecord.dropFrame

/-- GAP_TIMER_EXPIRY (R180). -/
def execGapTimerExpiry (p : Port) (s : State) : StepResult := whenPowered (gapExpires p) s

/-- The last byte of the response has been sent (R182). -/
def responseDone (p : Port) (s : State) : State := s.modPort p fun r => { r with responding := false }

/-- RESPONSE_SENT (R182). -/
def execResponseSent (p : Port) (s : State) : StepResult := whenPowered (responseDone p) s

end Sys2Proof.Machine
end

