-- ==== Sys2Proof/Machine/Timers.lean ====
section
/-! DEFINITION. One second of the part's own time: every running timer of section 0.7 counts, and nothing else happens. An expiry is a
command of its own (DESIGN CHOICE, notes/assumptions/2.md); times below a second are not measured (notes/assumptions/22.md). -/

namespace Sys2Proof.Machine

/-- A running timer counts a second, and stays at 65535, as R133 says of the deferral and phase timers; of a door's timers, of which R87 gives
the range alone for the open timer, and of a silence timer it is the model's (DESIGN CHOICE, notes/assumptions/33.md). -/
def Timer.tick (t : Timer) : Timer := if t.running then { t with count := min Config.countMax (t.count + 1) } else t

/-- A condition's delay timer counts up to the alarm delay (R13), while it runs (R15, R16). -/
def tickCondition (s : State) (z : ZoneId) (k : ConditionKind) (c : Condition) : Condition :=
  if conditionTimerRuns s z k then { c with timer := min (zoneEntry s z).alarmDelay (c.timer + 1) } else c

def tickZone (s : State) (z : ZoneId) : ZoneRecord :=
  let r := s.zones.get z
  { r with highWarn := tickCondition s z .highWarn r.highWarn, high := tickCondition s z .high r.high,
           low := tickCondition s z .low r.low }

/-- A transit's grant timer (R75). -/
def tickPallet (p : Pallet) : Pallet :=
  match p.location with
  | .transit t => { p with location := .transit { t with timer := min Config.countMax (t.timer + 1) } }
  | _ => p

def DoorRecord.tick (r : DoorRecord) : DoorRecord :=
  { r with openTimer := r.openTimer.tick, sealTimer := r.sealTimer.tick, lossTimer := r.lossTimer.tick }

def DefrostUnit.tick (u : DefrostUnit) : DefrostUnit := { u with deferral := u.deferral.tick, phase := u.phase.tick }

/-- The period timer counts up to the running period (R23). -/
def Exposure.tick (e : Exposure) : Exposure :=
  match e.period with
  | none => e
  | some n => { e with elapsed := min n (e.elapsed + 1) }

/-- The 2 s attempt timer runs while re-addressing is active (R128). -/
def Loop.tick (l : Loop) : Loop :=
  if l.readdressing then { l with attemptTimer := min Config.attemptPeriod (l.attemptTimer + 1) } else l

/-- The test timer counts down (R174). -/
def AlarmList.tick (a : AlarmList) : AlarmList := { a with test := a.test.map fun n => n - 1 }

def Converter.tick (c : Converter) : Converter := { c with sinceCheck := min Config.referencePeriod (c.sinceCheck + 1) }

def PortRecord.tick (r : PortRecord) : PortRecord := { r with silence := r.silence.tick }

/-- One second of the part's own time. -/
def secondTick (s : State) : State :=
  if s.power = .off then s
  else { s with
    converter := s.converter.tick, zones := Bank.ofFn (tickZone s), exposure := s.exposure.tick,
    pallets := if s.power = .running then s.pallets.map tickPallet else s.pallets,
    doors := s.doors.map DoorRecord.tick, loop := s.loop.tick, units := s.units.map DefrostUnit.tick,
    alarms := s.alarms.tick, ports := s.ports.map PortRecord.tick }

end Sys2Proof.Machine
end

