-- ==== Sys2Proof/Machine/Dispatch.lean ====
section
/-! DEFINITION. The command dispatch: one arm for each constructor of `Instr`, each one direct call of its meaning. -/

namespace Sys2Proof.Machine

def exec (i : Instr) (s : State) : Host.Outcome State Fault Refusal :=
  match i with
  | .startUp write => Sys2Proof.Machine.execStartUp write s
  | .backupSupplyLow => Sys2Proof.Machine.execBackupSupplyLow s
  | .profileLoadComplete reads => Sys2Proof.Machine.execProfileLoadComplete reads s
  | .conversionComplete c code => Sys2Proof.Machine.execConversionComplete c code s
  | .referenceCheck a b => Sys2Proof.Machine.execReferenceCheck a b s
  | .conditionTimerExpiry z k => Sys2Proof.Machine.execConditionTimerExpiry z k s
  | .accrualPeriodExpiry => Sys2Proof.Machine.execAccrualPeriodExpiry s
  | .palletCharge tag => Sys2Proof.Machine.execPalletCharge tag s
  | .moveOverdueExpiry tag => Sys2Proof.Machine.execMoveOverdueExpiry tag s
  | .sealDelayExpiry d => Sys2Proof.Machine.execSealDelayExpiry d s
  | .lossDelayExpiry d => Sys2Proof.Machine.execLossDelayExpiry d s
  | .openLongExpiry d => Sys2Proof.Machine.execOpenLongExpiry d s
  | .loopPollSend => Sys2Proof.Machine.execLoopPollSend s
  | .pollReplyWindowClose reply => Sys2Proof.Machine.execPollReplyWindowClose reply s
  | .addressingReplyWindow reply => Sys2Proof.Machine.execAddressingReplyWindow reply s
  | .readdressAttempt => Sys2Proof.Machine.execReaddressAttempt s
  | .readdressReplyWindow reply => Sys2Proof.Machine.execReaddressReplyWindow reply s
  | .deferralExpiry z => Sys2Proof.Machine.execDeferralExpiry z s
  | .pumpdownTimeout z => Sys2Proof.Machine.execPumpdownTimeout z s
  | .heatTimeExpiry z => Sys2Proof.Machine.execHeatTimeExpiry z s
  | .dripExpiry z => Sys2Proof.Machine.execDripExpiry z s
  | .recoveryTimeExpiry z => Sys2Proof.Machine.execRecoveryTimeExpiry z s
  | .silenceTimerExpiry p => Sys2Proof.Machine.execSilenceTimerExpiry p s
  | .alarmTestExpiry => Sys2Proof.Machine.execAlarmTestExpiry s
  | .receiveByte p b => Sys2Proof.Machine.execReceiveByte p b s
  | .gapTimerExpiry p => Sys2Proof.Machine.execGapTimerExpiry p s
  | .responseSent p => Sys2Proof.Machine.execResponseSent p s
  | .poll p => Sys2Proof.Machine.execPoll p s
  | .noticeMask p set => Sys2Proof.Machine.execNoticeMask p set s
  | .identify p => Sys2Proof.Machine.execIdentify p s
  | .timeRead p => Sys2Proof.Machine.execTimeRead p s
  | .timeSet p value => Sys2Proof.Machine.execTimeSet p value s
  | .zoneRead p zone => Sys2Proof.Machine.execZoneRead p zone s
  | .doorRead p door => Sys2Proof.Machine.execDoorRead p door s
  | .laneRead p lane => Sys2Proof.Machine.execLaneRead p lane s
  | .palletRead p tag => Sys2Proof.Machine.execPalletRead p tag s
  | .defrostRead p zone => Sys2Proof.Machine.execDefrostRead p zone s
  | .alarmList p page => Sys2Proof.Machine.execAlarmList p page s
  | .alarmAckOne p kind subject => Sys2Proof.Machine.execAlarmAckOne p kind subject s
  | .alarmAckAll p => Sys2Proof.Machine.execAlarmAckAll p s
  | .alarmTest p => Sys2Proof.Machine.execAlarmTest p s
  | .profileRead p index => Sys2Proof.Machine.execProfileRead p index s
  | .profileSet p index params => Sys2Proof.Machine.execProfileSet p index params s
  | .profileSave p => Sys2Proof.Machine.execProfileSave p s
  | .saveEntryWrite readBack => Sys2Proof.Machine.execSaveEntryWrite readBack s
  | .portStatus p named clear => Sys2Proof.Machine.execPortStatus p named clear s
  | .defrostRequest p zone => Sys2Proof.Machine.execDefrostRequest p zone s
  | .pumpdownDone p zone => Sys2Proof.Machine.execPumpdownDone p zone s
  | .heatEnd p zone => Sys2Proof.Machine.execHeatEnd p zone s
  | .defrostAbort p zone => Sys2Proof.Machine.execDefrostAbort p zone s
  | .trailerAssign p door trailer direction => Sys2Proof.Machine.execTrailerAssign p door trailer direction s
  | .doorOpen p door => Sys2Proof.Machine.execDoorOpen p door s
  | .doorClose p door => Sys2Proof.Machine.execDoorClose p door s
  | .trailerRelease p door => Sys2Proof.Machine.execTrailerRelease p door s
  | .loopRestart p => Sys2Proof.Machine.execLoopRestart p s
  | .arrive p tag cls door carried => Sys2Proof.Machine.execArrive p tag cls door carried s
  | .move p tag form index route duration => Sys2Proof.Machine.execMove p tag form index route duration s
  | .moveDone p tag => Sys2Proof.Machine.execMoveDone p tag s
  | .moveCancel p tag => Sys2Proof.Machine.execMoveCancel p tag s
  | .resolve p tag form index => Sys2Proof.Machine.execResolve p tag form index s
  | .disposeOverride p tag => Sys2Proof.Machine.execDisposeOverride p tag s
  | .disposeRemove p tag => Sys2Proof.Machine.execDisposeRemove p tag s
  | .purge p ranges => Sys2Proof.Machine.execPurge p ranges s
  | .manifestTake p door => Sys2Proof.Machine.execManifestTake p door s
  | .manifestAccept p door n confirm => Sys2Proof.Machine.execManifestAccept p door n confirm s
  | .mainPowerLoss write => Sys2Proof.Machine.execMainPowerLoss write s
  | .dockClockTick => Sys2Proof.Machine.execDockClockTick s

end Sys2Proof.Machine
end

