-- ==== Sys2Proof/Machine/Step.lean ====
section
/-! DEFINITION. One step: the command at the front of the queue, or one second of the part's own time when none waits
(notes/assumptions/2.md). -/

namespace Sys2Proof.Machine

/-- Take the command at the front of the queue; on an empty queue the part's own timers count one second. -/
def step (s : State) : Host.Outcome State Fault Refusal :=
  match s.pending with
  | [] => .next (secondTick s)
  | c :: rest => exec c { s with pending := rest }

/-- Put the command a word spells at the front of the queue. No row of the table gives bits, so no word spells one. -/
def State.withFetchWord (s : State) (nbits w : Nat) : State :=
  match decodeTableWord nbits w with
  | none => s
  | some c => { s with pending := c :: s.pending }

end Sys2Proof.Machine
end

