-- ==== Sys2Proof/Machine/Stations.lean ====
section
/-! DEFINITION. One door station and the enable chain, as section 6.1 describes them: the other end of the loop protocol. "The stations are
not part of the KX-240", so State holds none of this, and no command runs it: it is the environment that POLL_REPLY_WINDOW_CLOSE,
ADDRESSING_REPLY_WINDOW and READDRESS_REPLY_WINDOW take their replies from (notes/assumptions/13.md). -/

namespace Sys2Proof.Machine

/-- A station (R119 to R121): its address (0 unaddressed), remembered address, reset bit, whether its open-enable hold lasts, and what its
sensors give. -/
structure DoorStation where
  address : Nat
  remembered : Option Nat
  resetBit : Bool
  holds : Bool
  sensors : Report
  deriving DecidableEq, Repr

/-- The broadcast address (R119). -/
def broadcastAddress : Nat := 31

/-- Enable-out (R119): an addressed station passes its enable-in on; an unaddressed one stops the chain. -/
def DoorStation.enableOut (st : DoorStation) (enableIn : Bool) : Bool := st.address != 0 && enableIn

/-- The enable-in of each station of a chain; the part drives the first (R119). -/
def chainEnables (enableIn : Bool) : List DoorStation → List Bool
  | [] => []
  | st :: rest => enableIn :: chainEnables (st.enableOut enableIn) rest

/-- A loop command of R120. -/
inductive LoopCommand where
  | assign (new : Nat)
  | poll (address : Nat) (permit : Bool)
  | unassign
  deriving DecidableEq, Repr

/-- The station hears a command (R119). -/
def DoorStation.hears (st : DoorStation) (enableIn : Bool) : LoopCommand → Bool
  | .assign _ => st.address == 0 && enableIn
  | .poll a _ => enableIn && (if st.address = 0 then st.remembered == some a else st.address == a)
  | .unassign => st.address != 0 || enableIn

/-- Byte 1 of a reply: presence, restraint, position, reset (R188). -/
def replyFlags (r : Report) (reset : Bool) : Byte :=
  (if r.presence then 0x80 else 0) ||| (if r.restraint then 0x40 else 0) |||
  (match r.position with
    | .closed => 0
    | .moving => 0x10
    | .opened => 0x20) |||
  (if reset then 1 else 0)

/-- A reply's bytes: address, flags, seal pressure saturated at 4000, CRC (R120, R188). -/
def replyBytes (address : Nat) (r : Report) (reset : Bool) : List Byte :=
  loopFrame (u8 address ++ [replyFlags r reset] ++ u16 (min 4000 r.pressure))

/-- What a station does at a command it hears, and its reply (R120, R121). -/
def DoorStation.take (st : DoorStation) : LoopCommand → DoorStation × Option (List Byte)
  | .assign new =>
      ({ st with address := new, remembered := none, resetBit := false, holds := false },
       some (replyBytes new st.sensors st.resetBit))
  | .poll a permit =>
      if st.address = 0 then (st, some (replyBytes a st.sensors true))
      else ({ st with holds := st.holds || permit }, some (replyBytes a st.sensors false))
  | .unassign => ({ st with address := 0, remembered := none, holds := false }, none)

/-- A command on the pair at one station. -/
def DoorStation.answer (st : DoorStation) (enableIn : Bool) (c : LoopCommand) : DoorStation × Option (List Byte) :=
  if st.hears enableIn c then st.take c else (st, none)

/-- A station restarts (R120): address 0, the address it held remembered, the reset bit set, its hold dropped. -/
def DoorStation.restart (st : DoorStation) : DoorStation :=
  { st with address := 0, remembered := if st.address = 0 then none else some st.address, resetBit := true, holds := false }

/-- One second passes without a permit: the hold ends (R121). -/
def DoorStation.holdEnds (st : DoorStation) : DoorStation := { st with holds := false }

end Sys2Proof.Machine
end

