-- ==== Sys2Proof/Safety.lean ====
section
/-! DEFINITION. What the model's states are to satisfy: the invariants the manual states of the part's collections, permits and phases, the
frames a step leaves, and what the manual's tables and an accepted profile edit give. -/

namespace Sys2Proof.Machine

/-! ## Invariants -/

/-- An entry's key in the Alarm List. -/
def AlarmEntry.key (e : AlarmEntry) : AlarmKind × Subject := (e.kind, e.subject)

/-- R167: at most 48 entries, and no two share a kind and subject; each raise count lies in 1 … 255. -/
def AlarmsInv (s : State) : Prop :=
  s.alarms.entries.length ≤ 48 ∧ (s.alarms.entries.map AlarmEntry.key).Nodup ∧
  ∀ e ∈ s.alarms.entries, 1 ≤ e.count ∧ e.count ≤ 255

/-- R125: a door's permit stands in the permit set exactly while the door is OPEN. -/
def PermitInv (s : State) : Prop := ∀ d, (s.loop.stations.get d).permit = true ↔ doorState s d = .opened

/-- R143, R133, R134, R137: a heat permit is asserted exactly in HEAT, the urgent flag stands only in REQUESTED, DEFROST DEFERRED only with
the urgent flag, and a zone stands in the defrost queue exactly while its unit is in REQUESTED, at most once; the urgent zones stand ahead
of all others. -/
def DefrostInv (s : State) : Prop :=
  s.defrostQueue.Nodup ∧
  s.defrostQueue.Pairwise (fun y z => (s.units.get z).urgent = true → (s.units.get y).urgent = true) ∧
  ∀ z, ((s.units.get z).heatPermit = true ↔ unitState s z = .heat) ∧
    ((s.units.get z).urgent = true → unitState s z = .requested) ∧
    ((s.units.get z).deferred = true → (s.units.get z).urgent = true) ∧
    (z ∈ s.defrostQueue ↔ unitState s z = .requested)

/-- R112: a door stands in a wait queue only in its own zone's, only while SEALED, and at most once. -/
def WaitsInv (s : State) : Prop :=
  ∀ z, (s.waits.get z).Nodup ∧ ∀ d ∈ s.waits.get z, doorZone s d = z ∧ doorState s d = .sealed

/-- R114: no door is in OPEN or CLOSING while its zone's unit is in PUMPDOWN, HEAT or DRIP. -/
def ShutInDefrost (s : State) : Prop :=
  ∀ d, (doorState s d).countsOpen = true → (unitState s (doorZone s d)).holdsSlot = false

/-- R135: the slots in use never exceed the max concurrent defrosts; before the profile load no unit is out of IDLE (R153). -/
def SlotsInv (s : State) : Prop :=
  slotsInUse s ≤ s.profile.global.maxConcurrent ∧
  (s.power ≠ .running → s.defrostQueue = [] ∧ ∀ z, unitState s z = .idle)

/-- R44, R67, R155: each tag in at most one record, at most 512 records, at most 32 transits, and at most 192 departure records and load
reservations together. -/
def TableInv (s : State) : Prop :=
  (s.pallets.map Pallet.tag).Pairwise (· < ·) ∧ s.pallets.length ≤ 512 ∧ transitCount s ≤ 32 ∧
  poolRecords s + loadReservations s ≤ 192

/-- R63, R62: a lane's queue holds exactly the tags of the pallets located in it, each once; while the part runs, no lane has more places in
use than its working capacity. -/
def LanesInv (s : State) : Prop :=
  (∀ l, (s.lanes.get l).Nodup ∧
    ∀ tag, tag ∈ s.lanes.get l ↔ ∃ p ∈ s.pallets, p.tag = tag ∧ p.location = .at (.lane l)) ∧
  (s.power = .running → ∀ l, placesInUse s l ≤ (laneEntry s l).capacity)

/-- R113, R140: no door that waits may be opened, and no zone that waits for a defrost passes its gates. -/
def Settled (s : State) : Prop :=
  (∀ z, s.waits.get z ≠ [] → allowsOpen s z = false) ∧ ∀ z ∈ s.defrostQueue, gatesPass s z = false

/-- Before the profile load no zone stands in the defrost queue (R153). -/
def QueueInv (s : State) : Prop := s.power ≠ .running → s.defrostQueue = []

/-! ## What a statement says of a command's next state -/

/-- A port whose line no event touched: it may have taken notices. -/
def PortKept (a b : PortRecord) : Prop := b = { a with pending := b.pending }

/-- A port that took and answered a request: its receiver, sticky bits, error count and enable set are as they were. -/
def PortServed (a b : PortRecord) : Prop :=
  b = { a with responding := b.responding, response := b.response, silence := b.silence, silent := b.silent,
               pending := b.pending }

/-- The port takes a whole frame: main power is present, and the port is not responding, so that R182 does not drop the frame. -/
def Hears (p : Port) (s : State) : Prop := s.power ≠ .off ∧ (s.port p).responding = false

/-- The port takes a whole frame and check 3 of R183 passes for every request. -/
def Ready (p : Port) (s : State) : Prop := s.power = .running ∧ (s.port p).responding = false

/-- The part runs, the port is not responding and may send the request: checks 2 and 3 of R183 pass. -/
def Takes (p : Port) (r : Req) (s : State) : Prop := Ready p s ∧ r.openTo p = true

/-- The request was answered: the response carries its code, the result and the payload (R183); the port is responding (R182), its silence
timer runs from 0 and PARTY SILENT does not stand (R184). -/
def Answered (p : Port) (r : Req) (res : Result) (payload : List Byte) (t : State) : Prop :=
  (t.port p).response = some ⟨r.code, res, payload⟩ ∧ (t.port p).responding = true ∧ (t.port p).silent = false ∧
  (t.port p).silence = ⟨true, 0⟩

/-- A notice of the kind is pending wherever the enable set holds it (R176). -/
def Posted (k : NoticeKind) (t : State) : Prop :=
  ∀ q, (t.port q).enable &&& k.bit ≠ 0 → (t.port q).pending &&& k.bit ≠ 0

/-- No port's pending set changed in any notice kind but these. -/
def OnlyNotices (ks : List NoticeKind) (s t : State) : Prop :=
  ∀ q k, k ∉ ks → (t.port q).pending &&& k.bit = (s.port q).pending &&& k.bit

/-- The request was answered, no port's line but its own changed, and no notice but of these kinds was posted after the frame's
arrival. -/
def Accepted (p : Port) (r : Req) (res : Result) (payload : List Byte) (ks : List NoticeKind) (s t : State) : Prop :=
  Answered p r res payload t ∧ PortServed (s.port p) (t.port p) ∧ (∀ q, q ≠ p → PortKept (s.port q) (t.port q)) ∧
  OnlyNotices ks (takeFrame p s) t

/-- The command answers OK with this payload and changes nothing but its own port's line; the Alarm List is as the frame's arrival leaves
it. -/
def ReadAnswers (p : Port) (r : Req) (payload : List Byte) (c : Instr) (s : State) : Prop :=
  ∃ t, exec c s = .next t ∧ Accepted p r .ok payload [] s t ∧ t = { s with alarms := (takeFrame p s).alarms, ports := t.ports }

/-- The command answers this refusal and changes nothing else (R183). -/
def Refuses (p : Port) (r : Req) (res : Result) (c : Instr) (s : State) : Prop :=
  ∃ t, exec c s = .next t ∧ Accepted p r res [] [] s t ∧ t = { s with alarms := (takeFrame p s).alarms, ports := t.ports }

/-- A condition's alarm is in the list and active, or the list had no room for it (R169, R172). -/
def Stands (k : AlarmKind) (sub : Subject) (t : State) : Prop :=
  (∃ e, t.alarms.find k sub = some e ∧ e.state ≠ .clearedUnacked) ∨ t.alarms.overflow = true

/-- An event's alarm is in the list, or the list had no room for it (R170, R172). -/
def Recorded (k : AlarmKind) (sub : Subject) (t : State) : Prop :=
  (∃ e, t.alarms.find k sub = some e) ∨ t.alarms.overflow = true

/-- No entry of the kind and subject is active (R171). -/
def Cleared (k : AlarmKind) (sub : Subject) (t : State) : Prop :=
  ∀ e, t.alarms.find k sub = some e → e.state = .clearedUnacked

/-! ## Frames: the fields that may differ between a state and the next -/

/-- The Alarm List's entries but those that `may` names are as they were, and no other is new (R168). -/
def AlarmsKeptBut (may : AlarmKind → Subject → Bool) (s t : State) : Prop :=
  ∀ k sub, may k sub = false → t.alarms.find k sub = s.alarms.find k sub

/-- Only the Alarm List and the ports. -/
def OnlyReports (s t : State) : Prop := t = { s with alarms := t.alarms, ports := t.ports }

/-- Only the doors, the wait queues, the loop, the units and the defrost queue, with the reports: what the queue service and the grant
judgment may change (R113, R140). -/
def OnlyDocks (s t : State) : Prop :=
  t = { s with doors := t.doors, waits := t.waits, loop := t.loop, units := t.units, defrostQueue := t.defrostQueue,
               alarms := t.alarms, ports := t.ports }

/-- No port's line changed. -/
def PortsKept (s t : State) : Prop := ∀ q, PortKept (s.port q) (t.port q)

/-- Every other door's record is as it was. -/
def DoorsKeptBut (d : DoorId) (s t : State) : Prop := ∀ e, e ≠ d → t.doors.get e = s.doors.get e

/-- Every other zone's unit is as it was. -/
def UnitsKeptBut (z : ZoneId) (s t : State) : Prop := ∀ y, y ≠ z → t.units.get y = s.units.get y

/-- Every other pallet record is as it was. -/
def PalletsKeptBut (tag : Nat) (s t : State) : Prop := ∀ k, k ≠ tag → findPallet t k = findPallet s k

/-- Every other lane's queue is as it was. -/
def LanesKeptBut (l : LaneId) (s t : State) : Prop := ∀ k, k ≠ l → t.lanes.get k = s.lanes.get k

/-! ## The request rows -/

/-- The port and the request of a request row; none for an event of the part's own, a byte on a line or the world outside. -/
def request? : Instr → Option (Port × Req)
  | .poll p => some (p, .poll)
  | .noticeMask p _ => some (p, .noticeMask)
  | .identify p => some (p, .identify)
  | .timeRead p => some (p, .timeRead)
  | .timeSet p _ => some (p, .timeSet)
  | .zoneRead p _ => some (p, .zoneRead)
  | .doorRead p _ => some (p, .doorRead)
  | .laneRead p _ => some (p, .laneRead)
  | .palletRead p _ => some (p, .palletRead)
  | .defrostRead p _ => some (p, .defrostRead)
  | .alarmList p _ => some (p, .alarmList)
  | .alarmAckOne p _ _ => some (p, .alarmAck)
  | .alarmAckAll p => some (p, .alarmAck)
  | .alarmTest p => some (p, .alarmTest)
  | .profileRead p _ => some (p, .profileRead)
  | .profileSet p _ _ => some (p, .profileSet)
  | .profileSave p => some (p, .profileSave)
  | .portStatus p _ _ => some (p, .portStatus)
  | .defrostRequest p _ => some (p, .defrostRequest)
  | .pumpdownDone p _ => some (p, .pumpdownDone)
  | .heatEnd p _ => some (p, .heatEnd)
  | .defrostAbort p _ => some (p, .defrostAbort)
  | .trailerAssign p _ _ _ => some (p, .trailerAssign)
  | .doorOpen p _ => some (p, .doorOpen)
  | .doorClose p _ => some (p, .doorClose)
  | .trailerRelease p _ => some (p, .trailerRelease)
  | .loopRestart p => some (p, .loopRestart)
  | .arrive p _ _ _ _ => some (p, .arrive)
  | .move p _ _ _ _ _ => some (p, .move)
  | .moveDone p _ => some (p, .moveDone)
  | .moveCancel p _ => some (p, .moveCancel)
  | .resolve p _ _ _ => some (p, .resolve)
  | .disposeOverride p _ => some (p, .dispose)
  | .disposeRemove p _ => some (p, .dispose)
  | .purge p _ => some (p, .purge)
  | .manifestTake p _ => some (p, .manifestTake)
  | .manifestAccept p _ _ _ => some (p, .manifestAccept)
  | _ => none

/-! ## What the manual's tables give -/

/-- A value cut to −500 … +500 (R10, R11, R28, R42). -/
def cut (t : Int) : Int := max (-500) (min 500 t)

/-- R13, R14, R16: what filtered air `v` makes of a condition; `held`: its timer is held at 0 by the bypass. -/
def ruledCondition (e : ZoneEntry) (k : ConditionKind) (held : Bool) (v : Int) (c : Condition) : Condition :=
  let holds : Bool := match k with
    | .highWarn => e.highWarn < v
    | .high => e.highAlarm < v
    | .low => v < e.lowAlarm
  let clears : Bool := match k with
    | .highWarn => v ≤ e.highWarn - 10
    | .high => v ≤ e.highAlarm - 10
    | .low => e.lowAlarm + 10 ≤ v
  match c.state with
  | .quiet => if holds then ⟨.pending, 0⟩ else c
  | .pending => if holds then (if held then ⟨.pending, 0⟩ else c) else ⟨.quiet, 0⟩
  | .active => if clears then ⟨.quiet, 0⟩ else c

/-- R13 to R16: a zone's record after an evaluation of its conditions; `bypass`: the defrost bypass is in force. While frozen each condition
keeps its state, and a PENDING high timer stands at 0 under the bypass. -/
def ruledZone (e : ZoneEntry) (bypass : Bool) (r : ZoneRecord) : ZoneRecord :=
  let one := fun (k : ConditionKind) (held : Bool) (c : Condition) => match r.air.state, r.air.filtered with
    | .ok, some v => ruledCondition e k held v c
    | .suspect, some v => ruledCondition e k held v c
    | _, _ => if held ∧ c.state = .pending then ⟨.pending, 0⟩ else c
  { r with highWarn := one .highWarn bypass r.highWarn, high := one .high bypass r.high, low := one .low false r.low }

/-- R14, R17: each condition that has left ACTIVE has its alarm cleared and ZONE CHANGE posted. -/
def ToldOfExits (z : ZoneId) (a b : ZoneRecord) (t : State) : Prop :=
  ∀ k, (a.condition k).state = .active → (b.condition k).state ≠ .active →
    Cleared (conditionAlarm k) (.zone z) t ∧ Posted .zoneChange t

/-- R149: a unit after plant silence (the count of a stopped phase timer: notes/assumptions/8.md). -/
def silencedUnit (now : Nat) (x : DefrostUnit) : DefrostUnit :=
  match x.state with
  | .requested => { x with state := .idle, urgent := false, deferral := x.deferral.stop, deferred := false }
  | .pumpdown => { x with state := .idle, lastCause := some .silent, lastStamp := some now, phase := x.phase.stop }
  | .heat => { x with
      state := .drip, heatPermit := false, lastCause := some .silent, lastStamp := some now, phase := ⟨true, 0⟩ }
  | _ => x

/-- R101: the record of a door that enters LOST, with its loss origin (the counts of the stopped timers: notes/assumptions/8.md). -/
def lostRecord (x : DoorRecord) : DoorRecord :=
  { x with
    state := .lost, lossOrigin := some x.state, openingSeen := false, openLong := false, openTimer := x.openTimer.stop,
    sealTimer := x.sealTimer.stop, lossTimer := x.lossTimer.stop, view := { x.view with stale := true } }

/-- R58, R59: every pallet aboard the door becomes UNRESOLVED with one history entry. -/
def unresolvedAboard (d : DoorId) (s : State) : List Pallet :=
  s.pallets.map fun p => if p.location = .at (.trailer d) then
    { p with location := .unresolved, history := pushEntry p.history (.unresolved, s.clock) } else p

/-- R33: whether the dwell of a pallet at this location grows. -/
def DwellGrows (s : State) : Location → Prop
  | .at (.lane l) => (zoneEntry s (laneZone s l)).kind = .dock
  | .at (.bulk z) => (zoneEntry s z).kind = .dock
  | .at (.trailer _) => True
  | .transit m => ∃ z ∈ m.route, (zoneEntry s z).kind = .dock
  | .unresolved => False

/-! ## The layouts that R188 gives in tables -/

/-- R188: a temperature, with none as 8000h. -/
def ruledTempBytes : Option Int → List Byte
  | none => [0x80, 0x00]
  | some t => u16 (t % 65536).toNat

/-- R188: a place as a location's form and index. -/
def ruledPlaceBytes : Place → List Byte
  | .trailer d => [1, BitVec.ofNat 8 (d.val + 1)]
  | .lane l => [2, BitVec.ofNat 8 (l.val + 1)]
  | .bulk z => [3, BitVec.ofNat 8 (z.val + 1)]

/-- R188: the history, its count and 6 bytes for each entry. -/
def ruledHistoryBytes (h : List (Spot × Nat)) : List Byte :=
  u8 h.length ++ h.flatMap fun x => (match x.1 with
    | .at w => ruledPlaceBytes w
    | .unresolved => [5, 0]) ++ u32 x.2

/-- R188: the pallet record as PALLET READ's payload; `budget` is its class's. -/
def ruledPalletBytes (budget : Nat) (p : Pallet) : List Byte :=
  let bit := fun (b : Bool) (v : Nat) => if b then v else 0
  u32 p.tag ++ u8 p.cls.val ++ u16 p.account ++ u8 p.residue ++
  u8 (match p.status with
    | .normal => 0
    | .warning => 1
    | .over => 2) ++
  u8 (bit p.overridden 1 + bit p.estimated 2 + match p.location with
    | .transit m => 4 + bit m.overdue 8
    | _ => 0) ++
  ruledTempBytes p.peak ++ u16 p.dwell ++ u32 p.arrived ++
  (match p.location with
    | .at w => ruledPlaceBytes w
    | .transit _ => [4, 0]
    | .unresolved => [5, 0]) ++
  u8 p.moves ++ u16 (if p.account ≤ budget then budget - p.account else 0) ++ ruledHistoryBytes p.history ++
  match p.location with
  | .transit m =>
      ruledPlaceBytes m.origin ++
      (match m.dest with
        | .lane l => [2, BitVec.ofNat 8 (l.val + 1)]
        | .bulk z => [3, BitVec.ofNat 8 (z.val + 1)]
        | .door d => [6, BitVec.ofNat 8 (d.val + 1)]) ++
      u8 m.route.length ++ (m.route.map (fun (z : ZoneId) => BitVec.ofNat 8 (z.val + 1)) ++ [0, 0, 0, 0]).take 4 ++
      u16 m.duration ++ u16 m.timer
  | _ => []

/-- R188: a departure record as MANIFEST TAKE sends it; `flagged` is R159's. -/
def ruledDepartureBytes (flagged : Bool) (r : Departure) : List Byte :=
  u32 r.tag ++ u8 r.cls.val ++ u16 r.account ++ ruledTempBytes r.peak ++
  u8 (match r.verdict with
    | .normal => 0
    | .warning => 1
    | .over => 2
    | .overridden => 3) ++
  u8 ((if r.estimated then 1 else 0) + if flagged then 2 else 0) ++
  u32 r.arrived ++ u32 r.departed ++ u32 r.trailer ++ u8 r.moves ++ ruledHistoryBytes r.history

/-- R188: the code of an alarm kind. -/
def ruledKindCode : AlarmKind → Nat
  | .zoneHighWarn => 1 | .zoneHigh => 2 | .zoneLow => 3 | .airProbeFault => 4 | .coilProbeFault => 5 | .converterFault => 6
  | .doorBreach => 7 | .doorForced => 8 | .doorOpenLong => 9 | .stationLost => 10 | .defrostDeferred => 11 | .partySilent => 12
  | .palletOver => 13 | .dwellExceeded => 14 | .moveOverdue => 15 | .trailerLeft => 16 | .pumpdownTimeout => 17
  | .heatOverrun => 18 | .recoveryFail => 19 | .profileFault => 20 | .retentionLost => 21

/-- R188: the number a subject's four bytes carry. -/
def ruledSubject : Subject → Nat
  | .none => 0
  | .zone z => z.val + 1
  | .door d => d.val + 1
  | .port .plant => 1
  | .port .door => 2
  | .port .warehouse => 3
  | .entry i => i
  | .tag t => t

/-- R168, R173: the subject has the form its kind takes, with its value in range. (A zone, door or port of State is in range.) -/
def Carries (k : AlarmKind) : Subject → Prop
  | .zone _ => k ∈ [.zoneHighWarn, .zoneHigh, .zoneLow, .airProbeFault, .coilProbeFault, .defrostDeferred, .pumpdownTimeout,
      .heatOverrun, .recoveryFail]
  | .door _ => k ∈ [.doorBreach, .doorForced, .doorOpenLong, .stationLost, .trailerLeft]
  | .port _ => k = .partySilent
  | .tag t => k ∈ [.palletOver, .dwellExceeded, .moveOverdue] ∧ 1 ≤ t ∧ t ≤ 0xFFFFFFFE
  | .entry i => k = .profileFault ∧ i ≤ 80
  | .none => k ∈ [.converterFault, .retentionLost]

/-- R188: ALARM LIST's payload: the entry count, the status byte, the sequence number and the page's entries, 14 bytes each. -/
def ruledAlarmListBytes (s : State) (page : Nat) : List Byte :=
  let bit := fun (b : Bool) (v : Nat) => if b then v else 0
  let shown := (s.alarms.entries.drop (16 * page)).take 16
  u8 s.alarms.entries.length ++
  u8 (bit s.alarms.overflow 1 + bit (alarmOutput s) 2 + bit s.alarms.test.isSome 4) ++
  u16 s.alarms.seq ++ u8 shown.length ++ shown.flatMap fun e =>
    u8 (ruledKindCode e.kind + match e.state with
      | .activeUnacked => 0
      | .activeAcked => 64
      | .clearedUnacked => 128) ++
    u32 (ruledSubject e.subject) ++ u8 e.count ++ u32 e.first ++ u32 e.last

/-! ## Profile entries: named values, clamping, refusals and the effects of an accepted edit -/

/-- R193: the store where a save ended before its end. The entry being written kept its old contents, holds the new, or is torn (that it may
be any of the three is the model's choice: notes/assumptions/5.md); the entries before it hold the new values and those after it the old. -/
def ruledCut (s : State) (write : WriteCut) : Store :=
  match s.store.saving with
  | none => s.store
  | some i => ⟨match write with
      | .kept => s.store.entries
      | .written => s.store.entries.put i (.fits (s.profile.params (entryId i)))
      | .torn => s.store.entries.put i .bad, none⟩

/-- R193, R194: what an entry that the store holds reads as at a load whose row gives `reads`: a torn entry is torn, a single-bit error stays
unless more joins it, and any other entry may read as anything (the model's choice: notes/assumptions/5.md). -/
def ReadsAs (held : StoredEntry) (read : Option StoredEntry) (e : StoredEntry) : Prop :=
  match held, read with
  | held, none => e = held
  | .bad, some _ => e = .bad
  | .oneBit x, some read => e = if read = .bad then .bad else .oneBit x
  | _, some read => e = read

/-- R191, check 1, and the last row of R194: the fields are those of the index's family, and every named value (kind, enabled flag, zone
number) is one of its values; the enabled flag is 0 or 1 (the model's reading of R188: notes/assumptions/34.md). -/
def NamesDefined (id : EntryId) (e : EntryParams) : Prop :=
  match id, e with
  | .zone _, .zone e => e.kind ≤ 4
  | .door _, .door e => e.enabled ≤ 1 ∧ 1 ≤ e.zone ∧ e.zone ≤ 8
  | .lane _, .lane e => 1 ≤ e.zone ∧ e.zone ≤ 8
  | .cls _, .cls _ => True
  | .global, .global _ => True
  | _, _ => False

/-- R191, check 3: low alarm < setpoint < high warn ≤ high alarm, of a zone entry. -/
def LimitsOrdered : EntryParams → Prop
  | .zone e => e.lowAlarm < e.setpoint ∧ e.setpoint < e.highWarn ∧ e.highWarn ≤ e.highAlarm
  | _ => True

/-- The ranges of R88, R189 and R65, to whose nearer end each numeric field is clamped; a class's reserve then to its budget (R191). -/
def ClampsToRanges : Prop :=
  let i := fun (lo hi x : Int) => max lo (min hi x)
  let n := fun (lo hi x : Nat) => max lo (min hi x)
  (∀ e, clampParams (.zone e) = .zone {
    kind := e.kind, setpoint := i (-500) 200 e.setpoint, highWarn := i (-500) 500 e.highWarn,
    highAlarm := i (-500) 500 e.highAlarm, lowAlarm := i (-500) 500 e.lowAlarm, alarmDelay := n 30 3600 e.alarmDelay,
    maxOpen := n 0 12 e.maxOpen, pumpdownTimeout := n 30 600 e.pumpdownTimeout, maxHeat := n 5 90 e.maxHeat,
    termination := n 0 250 e.termination, dripTime := n 1 20 e.dripTime, recoveryTime := n 5 120 e.recoveryTime,
    recoveryBand := n 5 100 e.recoveryBand, maxDeferral := n 0 240 e.maxDeferral, airOffset := i (-600) 600 e.airOffset,
    coilOffset := i (-600) 600 e.coilOffset, airSpan := n 500 1500 e.airSpan, coilSpan := n 500 1500 e.coilSpan }) ∧
  (∀ e, clampParams (.door e) = .door {
    enabled := e.enabled, zone := e.zone, sealThreshold := n 50 2000 e.sealThreshold, sealDelay := n 1 30 e.sealDelay,
    lossDelay := n 1 10 e.lossDelay, maxOpenTime := n 1 240 e.maxOpenTime }) ∧
  (∀ e, clampParams (.lane e) = .lane ⟨e.zone, n 0 24 e.capacity⟩) ∧
  (∀ e, clampParams (.cls e) = .cls ⟨i (-500) 100 e.threshold, n 1 60000 e.budget, n 50 99 e.warnPercent,
    min (n 1 60000 e.budget) e.reserve, n 1 240 e.maxDwell⟩) ∧
  ∀ e, clampParams (.global e) =
    .global ⟨n 5 60 e.accrualPeriod, n 1 4 e.maxConcurrent, n 2 60 e.silencePlant, n 2 60 e.silenceDoor, n 2 60 e.silenceWarehouse⟩

/-- R192, R65, R150: when the owning block refuses an edit that makes the working copy `pr`. A lane edit that meets several rows of R65 is
answered by the first (the model's reading: notes/assumptions/20.md). -/
def RefusesEditsInUse : Prop :=
  ∀ s pr,
    (∀ z,
      let used := (∃ d, (doorEntry s d).enabled = true ∧ (doorEntry s d).zone = z) ∨
        (∃ l, 0 < (laneEntry s l).capacity ∧ (laneEntry s l).zone = z) ∨
        (∃ p ∈ s.pallets, ∃ w, p.location = .at w ∧ placeZone s w = z) ∨ unitState s z ≠ .idle
      let changed := (pr.zones.get z).kind ≠ (zoneEntry s z).kind
      (changed → used → editRefusal s pr (.zone z) = some .inUse) ∧ (¬ (changed ∧ used) → editRefusal s pr (.zone z) = none)) ∧
    (∀ d,
      let changed := (pr.doors.get d).enabled ≠ (doorEntry s d).enabled ∨ (pr.doors.get d).zone ≠ (doorEntry s d).zone
      let rests := doorState s d = .vacant ∨ doorState s d = .disabled ∨ doorState s d = .lost
      (changed → ¬ rests → editRefusal s pr (.door d) = some .inUse) ∧
      (¬ changed ∨ rests → editRefusal s pr (.door d) = none)) ∧
    (∀ l,
      let new := pr.lanes.get l
      let busy := new.capacity < placesInUse s l ∨ (new.zone ≠ (laneEntry s l).zone ∧ placesInUse s l ≠ 0)
      let bare := 0 < new.capacity ∧ (zoneEntry s new.zone).kind = .unused
      (busy → editRefusal s pr (.lane l) = some .inUse) ∧ (¬ busy → bare → editRefusal s pr (.lane l) = some .param) ∧
      (¬ busy → ¬ bare → editRefusal s pr (.lane l) = none)) ∧
    (∀ c, editRefusal s pr (.cls c) = none) ∧
    editRefusal s pr .global = if pr.global.maxConcurrent < slotsInUse s then some .inUse else none

/-- R151: what an accepted edit of its zone's entry `e` does to a unit `x` whose zone has record `r`; the tests are those of R142 to R146 and
R137. Max heat is judged before the coil (the model's choice: notes/assumptions/12.md); a timer is judged at any accepted edit of the
entry, also where its own limit kept its value (notes/assumptions/14.md); a stopped timer keeps its count (notes/assumptions/8.md). -/
def editedUnit (e : ZoneEntry) (now : Nat) (r : ZoneRecord) (x : DefrostUnit) : DefrostUnit :=
  let warm : Bool := r.coil.state ≠ .fault && (r.coil.filtered.map fun v => decide ((e.termination : Int) ≤ v)).getD false
  let cold : Bool := r.air.state ≠ .fault && (r.air.filtered.map fun v => decide (v ≤ e.setpoint + e.recoveryBand)).getD false
  let due := fun (limit : Nat) => x.phase.running && decide (limit ≤ x.phase.count)
  let dripping := fun cause => { x with
    state := UnitState.drip, heatPermit := false, lastCause := some cause, lastStamp := some now, phase := ⟨true, 0⟩ }
  match x.state with
  | .pumpdown => if due e.pumpdownTimeout then
      { x with state := .idle, lastCause := some .aborted, lastStamp := some now, phase := ⟨false, x.phase.count⟩ } else x
  | .heat => if due (60 * e.maxHeat) then dripping .time else if warm then dripping .temperature else x
  | .drip => if due (60 * e.dripTime) then
      (if cold then { x with state := .idle, phase := ⟨false, 0⟩ } else { x with state := .recover, phase := ⟨true, 0⟩ }) else x
  | .recover => if due (60 * e.recoveryTime) || cold then { x with state := .idle, phase := x.phase.stop } else x
  | .requested => if !x.urgent && x.deferral.running && decide (60 * e.maxDeferral ≤ x.deferral.count) then
      { x with urgent := true, deferred := true } else x
  | .idle => x

/-- R18, R19, R20, R151: what an accepted edit of zone `z`'s entry leaves. `s` is the state before it, `f` the state with the frame taken,
`u` the state before the queue service and the grant judgment. That a retired probe keeps its last sample is the model's choice
(notes/assumptions/17.md); of the unit's timers `editedUnit` says which readings are the model's. -/
def ZoneEditLeaves (z : ZoneId) (s f u : State) : Prop :=
  let old := zoneEntry s z
  let new := zoneEntry u z
  let r := s.zones.get z
  let r' := u.zones.get z
  let x := s.units.get z
  let x' := u.units.get z
  let blank : Condition := ⟨.quiet, 0⟩
  let retired := fun (p : Probe) => { p with state := ProbeState.ok, bad := 0, good := 0, history := [], filtered := none }
  let again := fun (c : Condition) => if c.state = .pending then { c with timer := 0 } else c
  let limits := old.highWarn ≠ new.highWarn ∨ old.highAlarm ≠ new.highAlarm ∨ old.lowAlarm ≠ new.lowAlarm ∨
    old.alarmDelay ≠ new.alarmDelay
  let ends := x.state.bypasses = true ∧ x'.state.bypasses = false
  -- the kind (R20)
  (old.kind ≠ new.kind → Posted .zoneChange u) ∧
  (old.kind ≠ .unused → new.kind = .unused →
    r' = ⟨retired r.air, retired r.coil, blank, blank, blank⟩ ∧
    (∀ k, (r.condition k).state = .active → Cleared (conditionAlarm k) (.zone z) u) ∧
    (r.air.state = .fault → Cleared .airProbeFault (.zone z) u) ∧ (r.coil.state = .fault → Cleared .coilProbeFault (.zone z) u)) ∧
  (old.kind = .unused → new.kind ≠ .unused → r' = .initial) ∧
  -- the limits and the calibration (R18, R19), with the end of the bypass (R16)
  (old.kind ≠ .unused → new.kind ≠ .unused →
    (limits → r' = ruledZone new x.state.bypasses { r with
      highWarn := again r.highWarn, high := again r.high, low := again r.low }) ∧
    (¬ limits → ends → r' = ruledZone new false r) ∧ (¬ limits → ¬ ends → r' = r) ∧ ToldOfExits z r r' u) ∧
  -- the defrost timings (R151)
  x' = editedUnit new s.clock r x ∧
  (x.state ≠ .requested → x'.state ≠ x.state → Posted .defrostPhase u) ∧
  (x.state = .pumpdown → x'.state = .idle → Recorded .pumpdownTimeout (.zone z) u) ∧
  (x.state = .heat → x'.state = .drip → x'.lastCause = some .time → r.coil.state ≠ .fault → r.coil.filtered ≠ none →
    Recorded .heatOverrun (.zone z) u) ∧
  (x.state = .recover → x.phase.running = true → 60 * new.recoveryTime ≤ x.phase.count → r.air.state ≠ .fault →
    r.air.filtered ≠ none → Recorded .recoveryFail (.zone z) u) ∧
  (x.urgent = false → x'.urgent = true → Stands .defrostDeferred (.zone z) u ∧
    u.defrostQueue = (s.defrostQueue.filter fun y => y != z).takeWhile (isUrgent s) ++
      z :: (s.defrostQueue.filter fun y => y != z).dropWhile (isUrgent s)) ∧
  (x'.urgent = x.urgent → u.defrostQueue = s.defrostQueue) ∧
  -- an edit of none of these, and what every edit leaves alone
  (old.kind = new.kind → ¬ limits → x' = x → u = { f with profile := u.profile }) ∧
  (∀ y, y ≠ z → u.zones.get y = s.zones.get y) ∧ UnitsKeptBut z s u ∧ PortsKept f u ∧
  u = { f with zones := u.zones, units := u.units, defrostQueue := u.defrostQueue, alarms := u.alarms, ports := u.ports,
               profile := u.profile }

/-- R115, R116, R128 to R130: what an accepted edit of door `d`'s entry leaves, as in `ZoneEditLeaves`. Where the loss delay and the max open
time of an OPEN door are both due, the loss is taken first (the model's choice: notes/assumptions/12.md). The model's readings are also
that a running timer is judged at any accepted edit of the entry, also where its own delay kept its value (notes/assumptions/14.md), that a
DISABLED door brought into service gets a stale view, the opening-seen flag clear and stopped timers (notes/assumptions/28.md), that a
stopped timer keeps its count (notes/assumptions/8.md), that the stopped attempt timer holds 0 (notes/assumptions/30.md) and that a door that
becomes SEALED at the edit has its reported pressure judged by the new threshold (notes/assumptions/32.md). -/
def DoorEditLeaves (d : DoorId) (s f u : State) : Prop :=
  let e := doorEntry u d
  let x := s.doors.get d
  let y := u.doors.get d
  let serves := e.enabled = true ∧ (zoneEntry u e.zone).kind = .dock
  let sealDue := x.state = .sealing ∧ x.sealTimer.running = true ∧ e.sealDelay ≤ x.sealTimer.count
  let lossDue := x.lossTimer.running = true ∧ e.lossDelay ≤ x.lossTimer.count
  let sealedLoss := x.state = .sealed ∧ lossDue
  let openLoss := (x.state = .opened ∨ x.state = .closing) ∧ lossDue
  let longDue := x.state = .opened ∧ ¬ lossDue ∧ x.openTimer.running = true ∧ 60 * e.maxOpenTime ≤ x.openTimer.count ∧ x.openLong = false
  let low := match x.view.pressure with
    | some p => p < e.sealThreshold - e.sealThreshold / 8
    | none => False
  -- whether the door is in service afterwards (R116)
  (¬ serves → x.state = .disabled → y = x ∧ u.pallets = s.pallets) ∧
  (¬ serves → x.state ≠ .disabled →
    y = { x with state := .disabled, assignment := none, lossOrigin := none, forced := false, openLong := false,
                 openTimer := x.openTimer.stop, sealTimer := x.sealTimer.stop, lossTimer := x.lossTimer.stop } ∧
    u.pallets = unresolvedAboard d s ∧ (aboard s d ≠ 0 → Posted .unresolved u) ∧ Posted .doorChange u ∧
    (x.forced = true → Cleared .doorForced (.door d) u)) ∧
  (serves → x.state = .disabled → y = { x with
    state := .lost, lossOrigin := none, openingSeen := false, sealTimer := x.sealTimer.stop, lossTimer := x.lossTimer.stop,
    view := { x.view with stale := true } } ∧ Posted .doorChange u) ∧
  (serves → u.pallets = s.pallets) ∧
  -- the running timers (R115)
  (serves → x.state ≠ .disabled →
    (sealDue → ¬ lossDue → y = { x with
      state := .sealed, sealedAt := some s.clock, sealTimer := x.sealTimer.stop, lossTimer := y.lossTimer } ∧
      (low → y.lossTimer = ⟨true, 0⟩) ∧ (¬ low → y.lossTimer = x.lossTimer) ∧ Posted .doorChange u) ∧
    (sealedLoss → y = { x with state := .docked, dockedAt := some s.clock, lossTimer := x.lossTimer.stop } ∧ d ∉ u.waits.get e.zone ∧ Posted .doorChange u) ∧
    (openLoss → y = { x with
      state := .breach, breachCause := some .seal, openingSeen := false, openLong := false, openTimer := x.openTimer.stop,
      lossTimer := x.lossTimer.stop } ∧ (u.loop.stations.get d).permit = false ∧ Stands .doorBreach (.door d) u ∧
      (x.openLong = true → Cleared .doorOpenLong (.door d) u) ∧ Posted .doorChange u) ∧
    (longDue → y = { x with openLong := true } ∧ Stands .doorOpenLong (.door d) u) ∧
    (¬ sealDue → ¬ sealedLoss → ¬ openLoss → ¬ longDue → y = x)) ∧
  -- the loop (R128, R130)
  (s.loop.mode = .polling →
    (∀ j, ((u.loop.stations.get j).lostAlarm = true ↔ (s.loop.stations.get j).state = .lost ∨
        ((s.loop.stations.get j).state = .notFound ∧ inService u j = true)) ∧
      ((s.loop.stations.get j).lostAlarm = false → (u.loop.stations.get j).lostAlarm = true → Stands .stationLost (.door j) u) ∧
      ((s.loop.stations.get j).lostAlarm = true → (u.loop.stations.get j).lostAlarm = false → Cleared .stationLost (.door j) u)) ∧
    (u.loop.readdressing = true ↔ ∃ j, (u.loop.stations.get j).lostAlarm = true) ∧
    (u.loop.readdressing = true → s.loop.readdressing = false → u.loop.attemptTimer = 0) ∧
    (u.loop.readdressing = true → u.loop.breakIndex = s.loop.breakIndex ∧ u.loop.window = s.loop.window) ∧
    (u.loop.readdressing = true → s.loop.readdressing = true → u.loop.attemptTimer = s.loop.attemptTimer) ∧
    -- an attempt under way ends, and its window stays open
    (u.loop.readdressing = false → u.loop.window = match s.loop.window with
      | .rePoll _ => .ended
      | .reAssign _ => .ended
      | w => w) ∧
    (u.loop.readdressing = false → u.loop.attemptTimer = 0 ∧ u.loop.breakIndex = none ∧
      (s.loop.breakIndex ≠ none → Posted .loopChange u))) ∧
  (s.loop.mode = .addressing → u.loop = { s.loop with stations := u.loop.stations } ∧
    ∀ j, (u.loop.stations.get j).lostAlarm = (s.loop.stations.get j).lostAlarm) ∧
  -- what every edit leaves alone
  (∀ j, (u.loop.stations.get j).state = (s.loop.stations.get j).state ∧
    (u.loop.stations.get j).misses = (s.loop.stations.get j).misses ∧
    (j ≠ d → (u.loop.stations.get j).permit = (s.loop.stations.get j).permit)) ∧
  u.loop = { s.loop with stations := u.loop.stations, readdressing := u.loop.readdressing,
                         attemptTimer := u.loop.attemptTimer, breakIndex := u.loop.breakIndex, window := u.loop.window } ∧
  DoorsKeptBut d s u ∧ (∀ z, z ≠ e.zone → u.waits.get z = s.waits.get z) ∧ PortsKept f u ∧
  u = { f with pallets := u.pallets, doors := u.doors, waits := u.waits, loop := u.loop, alarms := u.alarms, ports := u.ports,
               profile := u.profile }

/-- R39, R40: what an accepted edit of class `k`'s entry leaves of pallets with distinct tags, as in `ZoneEditLeaves`. -/
def ClassEditLeaves (k : ClassId) (s f u : State) : Prop :=
  let old := classEntry s k
  let new := classEntry u k
  let status := fun (q : Pallet) => if new.budget ≤ q.account then Status.over
    else if new.budget * new.warnPercent / 100 ≤ q.account then .warning else .normal
  let long := fun (c : ClassEntry) (q : Pallet) => 60 * c.maxDwell < q.dwell
  u.pallets = (s.pallets.map fun q => if q.cls = k then { q with status := status q } else q) ∧
  (∀ q ∈ s.pallets, q.cls = k →
    (status q ≠ q.status → Posted .palletStatus u) ∧
    (q.status ≠ .over → status q = .over → Stands .palletOver (.tag q.tag) u) ∧
    (q.status = .over → status q ≠ .over → Cleared .palletOver (.tag q.tag) u) ∧
    (¬ long old q → long new q → Stands .dwellExceeded (.tag q.tag) u) ∧
    (long old q → ¬ long new q → Cleared .dwellExceeded (.tag q.tag) u)) ∧
  PortsKept f u ∧ OnlyNotices [.palletStatus, .alarmChange] f u ∧
  u = { f with pallets := u.pallets, alarms := u.alarms, ports := u.ports, profile := u.profile }

/-- R150, R184, R23: what an accepted edit of the global entry leaves, as in `ZoneEditLeaves`: a port whose running count stands at or above
its new limit falls silent, with plant silence (R149) at Port P; a raised concurrency is judged in the grant judgment that follows (R150),
after the silence (the model's choice: notes/assumptions/12.md). The model's readings are the count of the stopped timer
(notes/assumptions/8.md) and that the counts are judged at any accepted edit, also where their own limits kept their values
(notes/assumptions/14.md). -/
def GlobalEditLeaves (f u : State) : Prop :=
  let g := u.profile.global
  let limit := fun (q : Port) => match q with
    | .plant => g.silencePlant
    | .door => g.silenceDoor
    | .warehouse => g.silenceWarehouse
  let due := fun (q : Port) => (f.port q).silence.running = true ∧ limit q ≤ (f.port q).silence.count
  (∀ q, ¬ due q → PortKept (f.port q) (u.port q)) ∧
  (∀ q, due q → u.port q = { f.port q with
    silence := ⟨false, (f.port q).silence.count⟩, silent := true, pending := (u.port q).pending } ∧ Stands .partySilent (.port q) u) ∧
  ((∀ q, ¬ due q) → u = { f with profile := u.profile }) ∧
  (due .plant → u.defrostQueue = [] ∧ ∀ z, u.units.get z = silencedUnit f.clock (f.units.get z)) ∧
  OnlyDocks { f with profile := u.profile } u

end Sys2Proof.Machine
end

