-- ==== Sys2Proof/Certificates/Slice0/Obligations.lean ====
section
/-! DEFINITION. The statements for the provers: what each command does to the state and leaves alone, the invariants every step keeps, and
the encodings that read back. -/

open Sys2Proof Sys2Proof.Machine

/-! ## The queue of commands and the frames that carry requests -/

/-- A step is the command at the front of the queue, run on the state with the queue's rest. -/
def Obligations.StepTakesTheFrontCommand : Prop :=
  ∀ (c : Instr) (rest : List Instr) (s : State), s.pending = c :: rest → step s = exec c { s with pending := rest }

/-- On an empty queue the part counts one second on every running timer of its own, and no other field of any record changes (that a step
on an empty queue is a second is the model's choice: notes/assumptions/2.md). The timers: the converter's seconds since a check (R3), the
conditions' delays (R13, R15, R16), the running period (R23), a transit's grant timer (R75), a door's open, seal and loss timers (R91, R92,
R100), the attempt timer (R128), a unit's deferral and phase (R133), the alarm test (R174) and a port's silence (R184). (That a door's or a
port's timer stays at 65535, as R75 and R133 say of theirs, is the model's choice: notes/assumptions/33.md.) -/
def Obligations.EmptyQueueCountsASecond : Prop :=
  ∀ s : State, s.pending = [] →
    let tick := fun (x : Timer) => if x.running then ⟨true, min 65535 (x.count + 1)⟩ else x
    let delay := fun (z : ZoneId) (k : ConditionKind) =>
      let c := (s.zones.get z).condition k
      if c.state = .pending ∧ (s.zones.get z).air.state ≠ .fault ∧ (s.zones.get z).air.filtered ≠ none ∧
          ((unitState s z).bypasses = false ∨ k = .low) then
        { c with timer := min (zoneEntry s z).alarmDelay (c.timer + 1) } else c
    (s.power = .off → step s = .next s) ∧
    (s.power ≠ .off → ∃ t, step s = .next t ∧
      t = { s with converter := t.converter, zones := t.zones, exposure := t.exposure, pallets := t.pallets, doors := t.doors,
                   loop := t.loop, units := t.units, alarms := t.alarms, ports := t.ports } ∧
      t.converter = { s.converter with sinceCheck := min 60 (s.converter.sinceCheck + 1) } ∧
      (∀ z, t.zones.get z = { s.zones.get z with highWarn := delay z .highWarn, high := delay z .high, low := delay z .low }) ∧
      t.exposure = { s.exposure with elapsed := match s.exposure.period with
        | none => s.exposure.elapsed
        | some n => min n (s.exposure.elapsed + 1) } ∧
      (s.power = .running → t.pallets = s.pallets.map fun p => match p.location with
        | .transit m => { p with location := .transit { m with timer := min 65535 (m.timer + 1) } }
        | _ => p) ∧
      (s.power ≠ .running → t.pallets = s.pallets) ∧
      (∀ d, let x := s.doors.get d
        t.doors.get d = { x with openTimer := tick x.openTimer, sealTimer := tick x.sealTimer, lossTimer := tick x.lossTimer }) ∧
      t.loop = { s.loop with attemptTimer :=
        if s.loop.readdressing then min 2 (s.loop.attemptTimer + 1) else s.loop.attemptTimer } ∧
      (∀ z, let x := s.units.get z
        t.units.get z = { x with deferral := tick x.deferral, phase := tick x.phase }) ∧
      t.alarms = { s.alarms with test := s.alarms.test.map fun n => n - 1 } ∧
      ∀ q, t.port q = { s.port q with silence := tick (s.port q).silence })

/-- No command stops the part, and no command but the step itself moves the queue. -/
def Obligations.EveryCommandIsTaken : Prop :=
  ∀ (c : Instr) (s : State), ∃ t, exec c s = .next t ∧ t.pending = s.pending

/-- R184, R183, R182: a valid frame restarts its port's silence timer, ends a standing PARTY SILENT and makes the port responding before its
request is dispatched, and changes nothing else of its port's record but the ALARM CHANGE notice; a frame that is not handed on answers
UNKNOWN, ROLE, BUSY or PARAM, in the order of the checks. A request row is one such frame (the model's choice: notes/assumptions/1.md): at a
port that is responding it is dropped with OVERRUN, else the checks answer it or it is answered by its own rule. -/
def Obligations.FrameIsTakenThenChecked : Prop :=
  ∀ (p : Port) (s : State),
    (let t := takeFrame p s
     t.port p = { s.port p with silence := ⟨true, 0⟩, silent := false, responding := true, pending := (t.port p).pending } ∧
      OnlyNotices [.alarmChange] s t ∧ (∀ q, q ≠ p → PortKept (s.port q) (t.port q)) ∧
      t = { s with alarms := t.alarms, ports := t.ports } ∧
      ((s.port p).silent = true → t.alarms = (clear .partySilent (.port p) s).alarms ∧
        Cleared .partySilent (.port p) t ∧ (t.alarms ≠ s.alarms → Posted .alarmChange t)) ∧
      ((s.port p).silent = false → t.alarms = s.alarms ∧ OnlyNotices [] s t)) ∧
    (∀ (code : Byte) (params : List Byte),
      (Req.ofCode? code = none → dispatchBytes p code params s = respond p code ⟨.unknown, []⟩ s) ∧
      ∀ r, Req.ofCode? code = some r →
        r.code = code ∧
        (r.openTo p = false → dispatchBytes p code params s = respond p code ⟨.role, []⟩ s) ∧
        (r.openTo p = true → s.power ≠ .running → r.early = false →
          dispatchBytes p code params s = respond p code ⟨.busy, []⟩ s) ∧
        (r.openTo p = true → (s.power = .running ∨ r.early = true) → parse r params = none →
          dispatchBytes p code params s = respond p code ⟨.param, []⟩ s) ∧
        (r.openTo p = true → (s.power = .running ∨ r.early = true) → ∀ b, parse r params = some b →
          dispatchBytes p code params s = respond p code (b p s).2 (b p s).1)) ∧
    ∀ (c : Instr) (r : Req), request? c = some (p, r) →
      (s.power = .off → exec c s = .next s) ∧
      (s.power ≠ .off → (s.port p).responding = true →
        exec c s = .next (s.putPort p { s.port p with overrunBit := true })) ∧
      (Hears p s → r.openTo p = false → exec c s = .next (respond p r.code ⟨.role, []⟩ (takeFrame p s))) ∧
      (Hears p s → r.openTo p = true → s.power ≠ .running → r.early = false →
        exec c s = .next (respond p r.code ⟨.busy, []⟩ (takeFrame p s))) ∧
      (Hears p s → r.openTo p = true → (s.power = .running ∨ r.early = true) →
        ∃ t res payload, exec c s = .next t ∧ Answered p r res payload t)

/-- R22, R57, R64, R118, R154, R175, R185, R186, R190, R195: the reads answer OK and change nothing; an operand out of its range is refused
PARAM, and a tag that is in no record NOTFOUND; IDENTIFY and PORT STATUS are served before the profile load completes. The payloads of
PALLET READ and ALARM LIST are R188's tables, byte by byte (`ruledPalletBytes`, `ruledAlarmListBytes`); the layouts of ZONE READ, DOOR
READ, LANE READ, DEFROST READ and PORT STATUS are the model's reading of R188's general rules, the heat permit's flag among them
(notes/assumptions/7.md), and so is the coding of the enabled flag in PROFILE READ (notes/assumptions/34.md). -/
def Obligations.ReadsAnswerAndChangeNothing : Prop :=
  ∀ (p : Port) (s : State),
    (Hears p s →
      ReadAnswers p .identify
        ([0x0D, 0x57, 0x02, 0x40, 0x01, 0, 8, 0, 24, 0, 32, 2, 0, 0, 32, 0, 192, 0, 48] ++ u8 (portCode p) ++
          flagBytes (s.power == .running)) (.identify p) s ∧
      (∀ q : Port, ReadAnswers p .portStatus (portStatusBytes (takeFrame p s) q) (.portStatus p (portCode q) 0) s) ∧
      ∀ n option, n = 0 ∨ 3 < n ∨ 1 < option → Refuses p .portStatus .param (.portStatus p n option) s) ∧
    (Ready p s →
      ReadAnswers p .timeRead (u32 s.clock ++ flagBytes s.clockValid ++ reportBytes s.report) (.timeRead p) s ∧
      (∀ page, page ≤ 2 → ReadAnswers p .alarmList (ruledAlarmListBytes (takeFrame p s) page) (.alarmList p page) s) ∧
      (∀ page, 2 < page → Refuses p .alarmList .param (.alarmList p page) s) ∧
      (∀ z : ZoneId, ReadAnswers p .zoneRead (zoneReadBytes s z) (.zoneRead p (z.val + 1)) s) ∧
      (∀ n, n = 0 ∨ 8 < n → Refuses p .zoneRead .param (.zoneRead p n) s ∧ Refuses p .defrostRead .param (.defrostRead p n) s) ∧
      (∀ d : DoorId, ReadAnswers p .doorRead (doorReadBytes s d) (.doorRead p (d.val + 1)) s) ∧
      (∀ n, n = 0 ∨ 24 < n → Refuses p .doorRead .param (.doorRead p n) s) ∧
      (∀ l : LaneId, ReadAnswers p .laneRead (laneReadBytes s l) (.laneRead p (l.val + 1)) s) ∧
      (∀ n, n = 0 ∨ 32 < n → Refuses p .laneRead .param (.laneRead p n) s) ∧
      (∀ z : ZoneId, ReadAnswers p .defrostRead (defrostReadBytes s z) (.defrostRead p (z.val + 1)) s) ∧
      (∀ tag r, tagOk tag = true → findPallet s tag = some r →
        ReadAnswers p .palletRead (ruledPalletBytes (classEntry s r.cls).budget r) (.palletRead p tag) s) ∧
      (∀ tag, tagOk tag = true → findPallet s tag = none → Refuses p .palletRead .notFound (.palletRead p tag) s) ∧
      (∀ tag, tag = 0 ∨ 0xFFFFFFFE < tag → Refuses p .palletRead .param (.palletRead p tag) s) ∧
      (∀ i : Fin 81, ReadAnswers p .profileRead (entryBytes s i) (.profileRead p i.val) s) ∧
      ∀ n, 80 < n → Refuses p .profileRead .param (.profileRead p n) s)

/-! ## The Alarm List, the notices and the ports -/

/-- R169, R170, R172: what a raise does, for a condition kind and for an event kind. -/
def Obligations.RaiseOfAnAlarm : Prop :=
  ∀ (k : AlarmKind) (sub : Subject) (s : State),
    let a := s.alarms
    let t := raise k sub s
    let entered := if k.isEvent then AlarmState.clearedUnacked else .activeUnacked
    let changed := OnlyReports s t ∧ PortsKept s t ∧ OnlyNotices [.alarmChange] s t ∧ Posted .alarmChange t
    (a.find k sub = none → a.entries.length < 48 →
      t.alarms = { a with entries := a.entries ++ [⟨k, sub, entered, 1, s.clock, s.clock⟩], seq := (a.seq + 1) % 65536 } ∧
      changed) ∧
    (a.find k sub = none → 48 ≤ a.entries.length → a.overflow = false →
      t.alarms = { a with overflow := true, seq := (a.seq + 1) % 65536 } ∧ changed) ∧
    (a.find k sub = none → 48 ≤ a.entries.length → a.overflow = true → t = s) ∧
    (∀ e, a.find k sub = some e → e.state = .clearedUnacked →
      t.alarms = { a with
        entries := a.entries.map fun x => if x.kind = k ∧ x.subject = sub then
          { x with state := entered, count := min 255 (x.count + 1), last := s.clock } else x
        seq := (a.seq + 1) % 65536 } ∧ changed) ∧
    (k.isEvent = false → ∀ e, a.find k sub = some e → e.state = .activeUnacked ∨ e.state = .activeAcked → t = s)

/-- R171: what a clear does. -/
def Obligations.ClearOfACondition : Prop :=
  ∀ (k : AlarmKind) (sub : Subject) (s : State),
    let a := s.alarms
    let t := clear k sub s
    let changed := OnlyReports s t ∧ PortsKept s t ∧ OnlyNotices [.alarmChange] s t ∧ Posted .alarmChange t
    (∀ e, a.find k sub = some e → e.state = .activeUnacked →
      t.alarms = { a with
        entries := a.entries.map fun x => if x.kind = k ∧ x.subject = sub then
          { x with state := .clearedUnacked, last := s.clock } else x
        seq := (a.seq + 1) % 65536 } ∧ changed) ∧
    (∀ e, a.find k sub = some e → e.state = .activeAcked →
      t.alarms = { a with
        entries := a.entries.filter fun x => !(x.kind == k && x.subject == sub)
        seq := (a.seq + 1) % 65536 } ∧ changed) ∧
    (∀ e, a.find k sub = some e → e.state = .clearedUnacked → t = s) ∧
    (a.find k sub = none → t = s)

/-- R173: ALARM ACK ONE and ALL. A kind outside the 21, and a subject number that no subject of the kind's form carries with its value in
range (a zone outside 1 … 8, a door outside 1 … 24, a port other than P, D or W, an entry index above 80, a tag 0 or FFFFFFFFh, anything
but 0 where the kind has no subject), are refused PARAM. `a` is the list as the frame's arrival leaves it. (That the sequence number rises
once where an acknowledgement changes entries and the marker together is the model's reading: notes/assumptions/24.md.) -/
def Obligations.AcknowledgeEntries : Prop :=
  ∀ (p : Port) (s : State), Ready p s → AlarmsInv s →
    let a := (takeFrame p s).alarms
    let ends := fun (c : Instr) (acked removed : Nat) (es : List AlarmEntry) => ∃ t, exec c s = .next t ∧
      Accepted p .alarmAck .ok (u16 acked ++ u16 removed ++ u16 es.length) [.alarmChange] s t ∧
      t = { s with alarms := t.alarms, ports := t.ports } ∧ t.alarms.entries = es ∧ t.alarms.test = a.test ∧
      t.alarms.overflow = (a.overflow && !(es.length < 48)) ∧
      (t.alarms.seq = if es = a.entries ∧ t.alarms.overflow = a.overflow then a.seq else (a.seq + 1) % 65536) ∧
      (¬ (es = a.entries ∧ t.alarms.overflow = a.overflow) → Posted .alarmChange t)
    (∀ kind subject, kind = 0 ∨ 21 < kind → Refuses p .alarmAck .param (.alarmAckOne p kind subject) s) ∧
    (∀ (k : AlarmKind) (subject : Nat), (∀ sub, Carries k sub → ruledSubject sub ≠ subject) →
      Refuses p .alarmAck .param (.alarmAckOne p (ruledKindCode k) subject) s) ∧
    (∀ (k : AlarmKind) (sub : Subject), Carries k sub →
      let kind := ruledKindCode k
      let subject := ruledSubject sub
      (∀ e, a.find k sub = some e → e.state = .activeUnacked →
        ends (.alarmAckOne p kind subject) 1 0 (a.entries.map fun x => if x = e then { x with state := .activeAcked } else x)) ∧
      (∀ e, a.find k sub = some e → e.state = .clearedUnacked →
        ends (.alarmAckOne p kind subject) 0 1 (a.entries.filter fun x => x != e)) ∧
      (∀ e, a.find k sub = some e → e.state = .activeAcked → ends (.alarmAckOne p kind subject) 0 0 a.entries) ∧
      (a.find k sub = none → Refuses p .alarmAck .notFound (.alarmAckOne p kind subject) s)) ∧
    ends (.alarmAckAll p) (a.entries.filter fun x => x.state == .activeUnacked).length
      (a.entries.filter fun x => x.state == .clearedUnacked).length
      ((a.entries.filter fun x => x.state != .clearedUnacked).map fun x => { x with state := .activeAcked })

/-- R174: the alarm output, ALARM TEST and the test timer's expiry. -/
def Obligations.AlarmTestAndOutput : Prop :=
  ∀ s : State,
    (alarmOutput s = true ↔ s.power ≠ .off ∧
      ((∃ e ∈ s.alarms.entries, e.state = .activeUnacked ∨ e.state = .clearedUnacked) ∨ s.alarms.overflow = true ∨
        s.alarms.test ≠ none)) ∧
    (∀ p, Ready p s → ∃ t, exec (.alarmTest p) s = .next t ∧ Accepted p .alarmTest .ok [] [] s t ∧
      t = { s with alarms := { (takeFrame p s).alarms with test := some 10 }, ports := t.ports } ∧ alarmOutput t = true) ∧
    (s.power ≠ .off → exec .alarmTestExpiry s = .next { s with alarms := { s.alarms with test := none } })

/-- R177, R178, R185: POLL empties its port's pending set; NOTICE MASK replaces the enable set; PORT STATUS with the clear option answers the
values before the clear, then clears the sticky bits and the CRC error count. `r` is the port as the frame's arrival leaves it. -/
def Obligations.PollNoticeMaskAndPortStatus : Prop :=
  ∀ (p : Port) (s : State),
    let r := (takeFrame p s).port p
    (Hears p s → ∃ t, exec (.poll p) s = .next t ∧ Answered p .poll .ok (u16 r.pending.toNat) t ∧
      t.port p = { r with pending := 0, response := (t.port p).response } ∧ (∀ q, q ≠ p → t.port q = (takeFrame p s).port q) ∧
      t = { s with alarms := (takeFrame p s).alarms, ports := t.ports } ∧ attention t p = false) ∧
    (Ready p s → ∀ set : NoticeSet, ∃ t, exec (.noticeMask p set) s = .next t ∧
      Answered p .noticeMask .ok (u16 set.toNat) t ∧
      t.port p = { r with enable := set, pending := r.pending &&& set, response := (t.port p).response } ∧
      (∀ q, q ≠ p → t.port q = (takeFrame p s).port q) ∧
      t = { s with alarms := (takeFrame p s).alarms, ports := t.ports } ∧ (attention t p = true ↔ r.pending &&& set ≠ 0)) ∧
    (Hears p s → ∃ t, exec (.portStatus p (portCode p) 1) s = .next t ∧
      Answered p .portStatus .ok (portStatusBytes (takeFrame p s) p) t ∧
      t.port p = { r with
        lengthBit := false, crcBit := false, overrunBit := false, crcErrors := 0, response := (t.port p).response } ∧
      (∀ q, q ≠ p → t.port q = (takeFrame p s).port q) ∧ t = { s with alarms := (takeFrame p s).alarms, ports := t.ports }) ∧
    (Hears p s → ∀ q, q ≠ p → Refuses p .portStatus .param (.portStatus p (portCode q) 1) s)

/-- R180, R181, R182: a byte at each state of the receiver, the gap timer's expiry, and the judgment of a whole frame: dropped with OVERRUN,
dropped with a CRC failure, or dispatched. (That the OVERRUN bit is set at the late frame's last byte, and not where the gap or a bad LENGTH
drops it first, is the model's reading: notes/assumptions/16.md.) -/
def Obligations.ReceiverTakesBytesAndFrames : Prop :=
  ∀ (p : Port) (s : State), s.power ≠ .off →
    let r := s.port p
    let back : PortRecord := { r with rx := ⟨.hunt, 0, [], false⟩ }
    let sum := crc8 (BitVec.ofNat 8 r.rx.length :: r.rx.kept)
    let becomes := fun (c : Instr) (r' : PortRecord) => ∃ t, exec c s = .next t ∧ t.port p = r' ∧
      (∀ q, q ≠ p → t.port q = s.port q) ∧ t = { s with ports := t.ports }
    (∀ b : Byte, r.rx.state = .hunt →
      (b = 0xC3 → becomes (.receiveByte p b) { r with rx := ⟨.count, 0, [], r.responding⟩ }) ∧
      (b ≠ 0xC3 → becomes (.receiveByte p b) r)) ∧
    (∀ b : Byte, r.rx.state = .count →
      (1 ≤ b.toNat → b.toNat ≤ 250 →
        becomes (.receiveByte p b) { r with rx := { r.rx with state := .body, length := b.toNat, kept := [] } }) ∧
      (b.toNat = 0 ∨ 251 ≤ b.toNat → becomes (.receiveByte p b) { back with lengthBit := true })) ∧
    (∀ b : Byte, r.rx.state = .body →
      (r.rx.kept.length + 1 < r.rx.length → becomes (.receiveByte p b) { r with rx := { r.rx with kept := r.rx.kept ++ [b] } }) ∧
      (r.rx.length ≤ r.rx.kept.length + 1 →
        becomes (.receiveByte p b) { r with rx := { r.rx with kept := r.rx.kept ++ [b], state := .check } })) ∧
    (∀ crc : Byte, r.rx.state = .check →
      (r.rx.late = true → becomes (.receiveByte p crc) { back with overrunBit := true }) ∧
      (r.rx.late = false → crc ≠ sum →
        becomes (.receiveByte p crc) { back with crcBit := true, crcErrors := min 255 (r.crcErrors + 1) }) ∧
      (r.rx.late = false → crc = sum → ∀ code params, r.rx.kept = code :: params →
        exec (.receiveByte p crc) s = .next (dispatchBytes p code params (takeFrame p (s.putPort p back))))) ∧
    (r.rx.state ≠ .hunt → becomes (.gapTimerExpiry p) { back with lengthBit := true }) ∧
    (r.rx.state = .hunt → exec (.gapTimerExpiry p) s = .next s) ∧
    becomes (.responseSent p) { r with responding := false }

/-- R184, R149, R187: the silence timer reaches its limit: it stops and PARTY SILENT stands; at ports D and W nothing else changes; at Port P
every defrost unit answers at the same event and the queue is emptied. The queue service follows: `u` is the state before it. (The count at
which a stopped timer stays is the model's reading: notes/assumptions/8.md.) -/
def Obligations.SilenceExpires : Prop :=
  ∀ (p : Port) (s : State), s.power ≠ .off →
    let limit := if s.power = .running then (match p with
      | .plant => s.profile.global.silencePlant
      | .door => s.profile.global.silenceDoor
      | .warehouse => s.profile.global.silenceWarehouse) else 10
    ((s.port p).silence.running = false → exec (.silenceTimerExpiry p) s = .next s) ∧
    ((s.port p).silence.running = true → ∃ t u, exec (.silenceTimerExpiry p) s = .next t ∧ t = settle u ∧
      u.port p = { s.port p with
        silence := ⟨false, max (s.port p).silence.count limit⟩, silent := true, pending := (u.port p).pending } ∧
      (∀ q, q ≠ p → PortKept (s.port q) (u.port q)) ∧ Stands .partySilent (.port p) u ∧
      (p ≠ .plant → OnlyNotices [.alarmChange] s u ∧ u.alarms = (raise .partySilent (.port p) s).alarms ∧
        u = { s with alarms := u.alarms, ports := u.ports }) ∧
      (p = .plant → OnlyNotices [.alarmChange, .defrostPhase] s u ∧ u.defrostQueue = [] ∧
        (∀ z, u.units.get z = silencedUnit s.clock (s.units.get z) ∧
          (unitState s z = .requested → (s.units.get z).deferred = true → Cleared .defrostDeferred (.zone z) u) ∧
          (unitState s z = .pumpdown ∨ unitState s z = .heat → Posted .defrostPhase u)) ∧
        u = { s with units := u.units, defrostQueue := u.defrostQueue, alarms := u.alarms, ports := u.ports }))

/-! ## Power, start-up, the clock and the profile -/

/-- The state right after reset: what R4, R21, R122, R133, R153, R167, R187 and R196 give a start-up with the marker cleared. (Which start-up
stands for reset, and the empty store, are the model's choice: notes/assumptions/6.md.) -/
def Obligations.ResetState : Prop :=
  let s := State.reset
  (s.marker = true ∧ s.clock = 0 ∧ s.clockValid = false ∧ s.exposure = ⟨none, 0, 0⟩ ∧ s.pallets = [] ∧ s.report.kept = false) ∧
  (∀ l, s.lanes.get l = []) ∧ (∀ d, s.manifests.get d = [] ∧ (s.doors.get d).assignment = none) ∧
  s.converter = ⟨false, 0, false, 0⟩ ∧ (∀ z, s.zones.get z = .initial) ∧
  (∀ k, s.loop.stations.get k = ⟨.notFound, 0, false, false⟩) ∧ s.loop.mode = .addressing ∧ s.loop.breakIndex = none ∧
  s.loop.readdressing = false ∧ (∀ z, s.waits.get z = []) ∧ (∀ z, s.units.get z = .initial) ∧ s.defrostQueue = [] ∧
  s.alarms = ⟨[⟨.retentionLost, .none, .clearedUnacked, 1, 0, 0⟩], false, 1, none⟩ ∧
  (∀ p, (s.port p).rx.state = .hunt ∧ (s.port p).responding = false ∧ (s.port p).silence = ⟨true, 0⟩ ∧
    (s.port p).pending = 0x2001 ∧ (s.port p).enable = defaultEnable p ∧ (s.port p).crcErrors = 0) ∧
  s.pending = [] ∧ s.power = .loading

/-- R196: the loss of main power keeps the retained collections and the nonvolatile store; the backup supply clears the marker only while main
power is absent. (That a save in progress ends at the loss itself, with the entry being written as `ruledCut` gives it, where R193 has the
next start-up end it, is the model's choice: notes/assumptions/26.md; so is what that entry may hold, 5.md, and that a second loss, or
a low backup supply with main power present, changes nothing, 11.md.) -/
def Obligations.PowerLossKeepsRetained : Prop :=
  ∀ s : State,
    (s.power = .off → ∀ write, exec (.mainPowerLoss write) s = .next s) ∧
    (s.power ≠ .off → ∀ write, ∃ t, exec (.mainPowerLoss write) s = .next t ∧ t.power = .off ∧ t.pallets = s.pallets ∧
      t.lanes = s.lanes ∧ t.manifests = s.manifests ∧ t.exposure.lastStamp = s.exposure.lastStamp ∧ t.clock = s.clock ∧
      t.clockValid = s.clockValid ∧ t.marker = s.marker ∧ t.pending = s.pending ∧
      (∀ d, (t.doors.get d).assignment = (s.doors.get d).assignment) ∧ t.store = ruledCut s write) ∧
    (s.power = .off → exec .backupSupplyLow s = .next { s with marker := false }) ∧
    (s.power ≠ .off → exec .backupSupplyLow s = .next s)

/-- R196, R193: a start-up ends a save, keeps the retained collections where the marker is valid, and empties them with RETENTION LOST where it is cleared;
everything else takes its start-up value, and the marker is set valid. (Doors DISABLED, a default working copy and report counts of 0 between
START_UP and the completed load are the model's choice: notes/assumptions/6.md; so is what the entry may hold that a save was writing,
5.md.) -/
def Obligations.StartUpJudgesTheMarker : Prop :=
  ∀ (s : State) (write : WriteCut),
    (s.marker = false → exec (.startUp write) s = .next { State.reset with pending := s.pending, store := ruledCut s write }) ∧
    (s.marker = true → ∃ t, exec (.startUp write) s = .next t ∧
      t = { State.reset with
        pending := s.pending, clock := s.clock, clockValid := s.clockValid, report := t.report,
        exposure := ⟨none, 0, s.exposure.lastStamp⟩, pallets := s.pallets, lanes := s.lanes, doors := t.doors,
        manifests := s.manifests, alarms := ⟨[], false, 0, none⟩, ports := t.ports, store := ruledCut s write } ∧
      t.report.kept = true ∧ (∀ d, t.doors.get d = DoorRecord.initial .disabled (s.doors.get d).assignment) ∧
      ∀ p, t.port p = PortRecord.initial p 0x2000)

/-- R194, R193: what each entry of the store reads as (`ReadsAs`: a torn entry is torn, and takes its defaults with PROFILE FAULT) and how it
is judged; `e` is the entry as read. It is taken where its fields are of the index's family with every
named value defined (`NamesDefined`), every value lies in its range (the clamping of R191, which `ClampsToRanges` gives, leaves it as it is)
and a zone entry is ordered. (That a corrected entry with a value out of range takes its defaults is the model's reading:
notes/assumptions/19.md; so is that an enabled flag is 0 or 1, 34.md.) -/
def Obligations.LoadJudgesEachEntry : Prop :=
  ∀ (s : State) (reads : List (Nat × StoredEntry)) (i : Fin 81),
    let l := loadAll s reads
    let value := l.profile.params (entryId i)
    let default := Profile.default.params (entryId i)
    let fits := fun e => NamesDefined (entryId i) e ∧ clampParams e = e ∧ LimitsOrdered e
    l.kinds.length = 81 ∧ ReadsAs (s.store.entries.get i) (reads.lookup i.val) (entryAsRead s reads i) ∧
    match entryAsRead s reads i with
    | .erased => value = default ∧ l.kinds[i.val]? = some .blank ∧ i.val ∉ l.faults
    | .bad => value = default ∧ l.kinds[i.val]? = some .defaulted ∧ i.val ∈ l.faults
    | .fits e => (fits e → value = e ∧ l.kinds[i.val]? = some .loaded ∧ i.val ∉ l.faults) ∧
        (¬ fits e → value = default ∧ l.kinds[i.val]? = some .defaulted ∧ i.val ∈ l.faults)
    | .oneBit e => (fits e → value = e ∧ l.kinds[i.val]? = some .corrected ∧ i.val ∉ l.faults) ∧
        (¬ fits e → value = default ∧ l.kinds[i.val]? = some .defaulted ∧ i.val ∈ l.faults)

/-- R194, R197, R23, R59, R60, R85, R86, R117, R132: what the completed load leaves: the working copy and the counts, every lane's queue in its
order with its capacity raised to its pallets, every transit discarded, and each pallet that was in transit, in a lane or store of an UNUSED
zone or aboard a door that is not in service UNRESOLVED with one history entry; every door LOST or DISABLED; the addressing run begun; and
in the store each entry as it read (`ReadsAs`; notes/assumptions/5.md). (That no DOOR CHANGE is posted for the doors is the model's reading, and nothing here says it:
notes/assumptions/18.md.) -/
def Obligations.LoadStartsEveryBlock : Prop :=
  ∀ (s : State) (reads : List (Nat × StoredEntry)), s.power = .loading →
    let l := loadAll s reads
    let pr := l.profile
    let counted := fun (k : LoadKind) => (l.kinds.filter fun x => x == k).length
    let serves := fun (d : DoorId) => (pr.doors.get d).enabled = true ∧ (pr.zones.get (pr.doors.get d).zone).kind = .dock
    let unused := fun (z : ZoneId) => (pr.zones.get z).kind = .unused
    let unresolved := fun (p : Pallet) => match p.location with
      | .transit _ => True
      | .at (.lane i) => unused (pr.lanes.get i).zone
      | .at (.bulk z) => unused z
      | .at (.trailer d) => ¬ serves d
      | .unresolved => False
    let overfull := fun (t : State) (i : LaneId) => (pr.lanes.get i).capacity < (t.lanes.get i).length
    ∃ t, exec (.profileLoadComplete reads) s = .next t ∧ t.power = .running ∧
      t.report = { s.report with
        loaded := counted .loaded, corrected := counted .corrected, blank := counted .blank, defaulted := counted .defaulted,
        outage := if s.report.kept then s.clock - s.exposure.lastStamp else 0 } ∧
      t.report.loaded + t.report.corrected + t.report.blank + t.report.defaulted = 81 ∧
      (∀ i ∈ l.faults, Recorded .profileFault (.entry i) t) ∧
      t.store.saving = s.store.saving ∧ (∀ i : Fin 81, ReadsAs (s.store.entries.get i) (reads.lookup i.val) (t.store.entries.get i)) ∧
      -- the lanes and the working copy
      (∀ i, t.lanes.get i = if unused (pr.lanes.get i).zone then [] else s.lanes.get i) ∧
      t.profile = { pr with lanes := t.profile.lanes } ∧
      (∀ i, t.profile.lanes.get i = { pr.lanes.get i with
        capacity := max (pr.lanes.get i).capacity (t.lanes.get i).length }) ∧
      ((∃ i, overfull t i) → Posted .profileChanged t) ∧
      ((∀ i, ¬ overfull t i) → ∀ q, (t.port q).pending &&& NoticeKind.profileChanged.bit =
        (s.port q).pending &&& NoticeKind.profileChanged.bit) ∧
      -- the pallets
      (∀ p ∈ s.pallets, ∃ q ∈ t.pallets, q.tag = p.tag ∧
        (unresolved p → q.location = .unresolved ∧ q.history = pushEntry p.history (.unresolved, s.clock) ∧ Posted .unresolved t) ∧
        (¬ unresolved p → q.location = p.location ∧ q.history = p.history)) ∧
      t.pallets.map Pallet.tag = s.pallets.map Pallet.tag ∧ transitCount t = 0 ∧
      t.exposure = ⟨some pr.global.accrualPeriod, 0, s.clock⟩ ∧
      -- the doors and the loop
      (∀ d, (serves d → t.doors.get d = DoorRecord.initial .lost (s.doors.get d).assignment) ∧
        (¬ serves d → t.doors.get d = DoorRecord.initial .disabled none)) ∧
      (∀ z, t.waits.get z = []) ∧ t.loop.mode = .addressing ∧ t.loop.readdressing = false ∧ t.loop.breakIndex = none ∧
      (s.loop.window = .idle → t.loop.window = .assign 0 ∧ t.loop.sent = [unassignFrame, assignFrame 0]) ∧
      (s.loop.window ≠ .idle → t.loop.window = s.loop.window ∧ t.loop.sent = []) ∧
      (∀ k, (t.loop.stations.get k).state = .notFound ∧ (t.loop.stations.get k).misses = 0 ∧
        (t.loop.stations.get k).permit = false) ∧ Posted .loopChange t ∧
      t = { s with power := t.power, report := t.report, exposure := t.exposure, pallets := t.pallets, lanes := t.lanes,
                   doors := t.doors, waits := t.waits, loop := t.loop, units := t.units, defrostQueue := t.defrostQueue,
                   alarms := t.alarms, ports := t.ports, profile := t.profile, store := t.store }

/-- R41, R42, R43, R34 to R36: the catch-up, with the conditions that stand after it and its notice, charges every retained pallet once for
the outage at its catch-up temperature, which R42's table gives, and marks it ESTIMATED; its dwell grows by the outage in the cases of R33, which `DwellGrows` lists; the unresolved charging temperature is that
of R28. -/
def Obligations.CatchUpChargesTheOutage : Prop :=
  ∀ (s : State) (reads : List (Nat × StoredEntry)) (p : Pallet), s.power = .loading → p ∈ s.pallets →
    (s.pallets.map Pallet.tag).Nodup →
    ∃ t q, exec (.profileLoadComplete reads) s = .next t ∧ findPallet t p.tag = some q ∧
      let c := classEntry t p.cls
      let outage := s.clock - s.exposure.lastStamp
      let sum := p.residue + (catchUpTemp t p.location - c.threshold).toNat * outage
      let temp := catchUpTemp t p.location
      let high := fun (z : ZoneId) => (zoneEntry t z).highAlarm
      let gives := fun (z : ZoneId) => if (zoneEntry t z).kind = .unused then unresolvedTemp t else high z
      (match p.location with
        | .at (.lane i) => temp = cut (high (laneEntry t i).zone)
        | .at (.bulk z) => temp = cut (high z)
        | .at (.trailer d) => temp = cut (high (doorEntry t d).zone)
        | .transit m => m.route ≠ [] → (∃ z ∈ m.route, temp = cut (gives z)) ∧ ∀ z ∈ m.route, cut (gives z) ≤ temp
        | .unresolved => temp = unresolvedTemp t) ∧
      (outage = 0 → q.account = p.account ∧ q.residue = p.residue ∧ q.estimated = p.estimated ∧ q.peak = p.peak ∧ q.dwell = p.dwell) ∧
      (0 < outage → q.account = min 65535 (p.account + sum / 60) ∧ q.estimated = true ∧
        (q.account < 65535 → q.residue = sum % 60) ∧ (q.account = 65535 → q.residue = 0) ∧
        q.peak = some (match p.peak with
          | none => temp
          | some x => max x temp) ∧
        (DwellGrows t p.location → q.dwell = min 65535 (p.dwell + outage)) ∧
        (¬ DwellGrows t p.location → q.dwell = p.dwell)) ∧
      -- the conditions that stand after the charge, and the notice (R43)
      (q.status = .over → Stands .palletOver (.tag p.tag) t) ∧
      (60 * c.maxDwell < q.dwell → Stands .dwellExceeded (.tag p.tag) t) ∧ (q.status ≠ p.status → Posted .palletStatus t) ∧
      q.status = statusOf c q.account ∧ q.cls = p.cls ∧ q.moves = p.moves ∧ q.arrived = p.arrived ∧
      q.overridden = p.overridden

/-- R195: the dock clock, TIME READ and TIME SET. -/
def Obligations.DockClock : Prop :=
  ∀ s : State, s.clock ≤ 4294967295 →
    exec .dockClockTick s = .next { s with clock := if s.clock = 4294967295 then 0 else s.clock + 1 } ∧
    (∀ p, Ready p s →
      ReadAnswers p .timeRead (u32 s.clock ++ flagBytes s.clockValid ++ reportBytes s.report) (.timeRead p) s ∧
      ∀ v, v ≤ 4294967295 → ∃ t, exec (.timeSet p v) s = .next t ∧ Accepted p .timeSet .ok [] [.clockSet] s t ∧
        Posted .clockSet t ∧
        t = { s with clock := v, clockValid := true, exposure := { s.exposure with lastStamp := v },
                     alarms := (takeFrame p s).alarms, ports := t.ports })

/-- R191, R192: PROFILE SET: its clamping and its checks in order, what check 4 refuses, and an accepted edit, which replaces its entry and
acts in the owning block: a zone edit (R18 to R20, R151), a door edit (R115, R116, R128, R130), a lane edit (R65), a class edit (R39, R40)
and a global edit (R23, R150, R184). `pr` is the working copy with the clamped entry in it; `u` is the state before the queue service and
the grant judgment, which R113, R140 and R152 make after it. (The model's choices and readings it rests on: the payload's leading index byte,
notes/assumptions/7.md; a stopped timer's count, 8.md; the order of several causes within the edit, 12.md; timers judged at any accepted
edit of their entry, 14.md; the last sample of a retired probe, 17.md; the first of several rows of R65, 20.md; the view, flag and timers of
a DISABLED door brought into service, 28.md; the count 0 of the stopped attempt timer, 30.md; the threshold that judges a door that becomes
SEALED at the edit, 32.md; the coding of the enabled flag, 34.md.) -/
def Obligations.ProfileSetChecksAndReplaces : Prop :=
  ClampsToRanges ∧ RefusesEditsInUse ∧
  ∀ (p : Port) (i : Fin 81) (e : EntryParams) (s : State), Ready p s →
    let refused := fun r => Refuses p .profileSet r (.profileSet p i.val e) s
    (∀ n, 80 < n → Refuses p .profileSet .param (.profileSet p n e) s) ∧
    (¬ NamesDefined (entryId i) e → refused .param) ∧
    (NamesDefined (entryId i) e → ∃ pr, s.profile.install (entryId i) (clampParams e) = some pr ∧
      pr.params (entryId i) = clampParams e ∧ (∀ j, j ≠ i → pr.params (entryId j) = s.profile.params (entryId j)) ∧
      (s.store.saving ≠ none → refused .busy) ∧
      (s.store.saving = none → ¬ LimitsOrdered (clampParams e) → refused .param) ∧
      (s.store.saving = none → LimitsOrdered (clampParams e) → ∀ r, editRefusal s pr (entryId i) = some r → refused r) ∧
      (s.store.saving = none → LimitsOrdered (clampParams e) → editRefusal s pr (entryId i) = none →
        let f := takeFrame p s
        let result := if clampParams e = e then Result.ok else .clamped
        let payload := u8 i.val ++ paramsBytes (clampParams e)
        ∃ t u, exec (.profileSet p i.val e) s = .next t ∧
          t = respond p 0x0F ⟨result, payload⟩ (post .profileChanged (settle u)) ∧
          Answered p .profileSet result payload t ∧
          t.profile = pr ∧ u.profile = pr ∧ Posted .profileChanged t ∧
          (match entryId i with
            | .zone z => ZoneEditLeaves z s f u
            | .door d => DoorEditLeaves d s f u
            | .lane _ => u = { f with profile := pr }
            | .cls k => (s.pallets.map Pallet.tag).Nodup → ClassEditLeaves k s f u
            | .global => GlobalEditLeaves f u) ∧
          t = { s with zones := t.zones, pallets := t.pallets, doors := t.doors, waits := t.waits, loop := t.loop,
                       units := t.units, defrostQueue := t.defrostQueue, alarms := t.alarms, ports := t.ports,
                       profile := t.profile }))

/-- R193: PROFILE SAVE and the write of one entry. (That an entry which reads back with a single-bit error has not read back correctly is the
model's choice: notes/assumptions/5.md.) -/
def Obligations.SaveWritesEntriesInOrder : Prop :=
  ∀ (s : State), s.power = .running →
    (∀ p, Ready p s → s.store.saving = none → ∃ t, exec (.profileSave p) s = .next t ∧ Accepted p .profileSave .ok [] [] s t ∧
      t = { s with alarms := (takeFrame p s).alarms, ports := t.ports, store := { s.store with saving := some 0 } }) ∧
    (∀ p, Ready p s → s.store.saving ≠ none → Refuses p .profileSave .busy (.profileSave p) s) ∧
    (∀ (i : Fin 81) (readBack : Option StoredEntry), s.store.saving = some i → ∃ t, exec (.saveEntryWrite readBack) s = .next t ∧
      let written := StoredEntry.fits (s.profile.params (entryId i))
      let value := readBack.getD written
      t = { s with alarms := t.alarms, ports := t.ports, store := t.store } ∧ PortsKept s t ∧
      t.store.entries = s.store.entries.put i value ∧
      (value = written → t.alarms = s.alarms) ∧ (value ≠ written → t.alarms = (raise .profileFault (.entry i.val) s).alarms) ∧
      (∀ h : i.val < 80, t.store.saving = some ⟨i.val + 1, by omega⟩) ∧
      (i.val = 80 → t.store.saving = none ∧ Posted .profileSaved t))

/-- R190: an entry's field bytes read back to the entry, for every family and every value its bytes can carry. -/
def Obligations.ProfileEntryBytesReadBack : Prop :=
  ∀ (i : Fin 81) (e : EntryParams), e.fieldsOk = true →
    (match entryId i, e with
      | .zone _, .zone _ => True
      | .door _, .door _ => True
      | .lane _, .lane _ => True
      | .cls _, .cls _ => True
      | .global, .global _ => True
      | _, _ => False) →
    readParams (entryId i) (paramsBytes e) = some e ∧
    (paramsBytes e).length = match entryId i with
      | .zone _ => 35
      | .door _ => 10
      | .lane _ => 3
      | .cls _ => 9
      | .global => 9

/-! ## Probes, conditions and exposure -/

/-- R1, R2, R5, R7, R8, R10: a conversion of a used zone's channel gives its probe a sample of this class, and the probe takes it; its alarm is
raised on entry to FAULT and cleared on leaving it; ZONE CHANGE is posted at a change of the probe's state and at a change of an air probe's
substitution flag, which the first GOOD air sample clears; the zone's other probe and every other zone's record are as they were. A channel of an UNUSED zone, and one before the sweep begins, changes nothing. -/
def Obligations.ConversionReachesItsProbe : Prop :=
  ∀ (c : Fin 16) (code : Nat) (s : State), s.power = .running → code ≤ 16383 →
    let z : ZoneId := ⟨c.val / 2, by omega⟩
    let k : ProbeKind := if c.val % 2 = 0 then .air else .coil
    let span := if c.val % 2 = 0 then (zoneEntry s z).airSpan else (zoneEntry s z).coilSpan
    let offset := if c.val % 2 = 0 then (zoneEntry s z).airOffset else (zoneEntry s z).coilOffset
    (s.converter.sweepBegun = false ∨ (zoneEntry s z).kind = .unused → exec (.conversionComplete c code) s = .next s) ∧
    (s.converter.sweepBegun = true → (zoneEntry s z).kind ≠ .unused →
      ∃ t x q, exec (.conversionComplete c code) s = .next t ∧
        -- the rounded quotient of R2, halves away from zero
        (let n : Int := ((code : Int) - 8192) * span
         2 * (n - 8192 * q).natAbs ≤ 8192 ∧ (2 * (n - 8192 * q).natAbs = 8192 → n.natAbs < (8192 * q).natAbs)) ∧
        x = (if s.converter.fault then .reference
          else if code < 256 then .short
          else if 16127 < code then .openCircuit
          else if q + offset < -500 ∨ 500 < q + offset then .range
          else .good (q + offset)) ∧
        (t.zones.get z).probe k = ((s.zones.get z).probe k).take x ∧ ((t.zones.get z).probe k).last = some x ∧
        (k = .air → (t.zones.get z).coil = (s.zones.get z).coil) ∧
        (k = .coil → t.zones.get z = { s.zones.get z with coil := (t.zones.get z).coil }) ∧
        (let old := ((s.zones.get z).probe k).state
         let new := ((t.zones.get z).probe k).state
         let alarm := if c.val % 2 = 0 then AlarmKind.airProbeFault else AlarmKind.coilProbeFault
         let flag := fun (r : ZoneRecord) => r.air.state = .fault ∨ r.air.filtered = none
         (old ≠ new → Posted .zoneChange t) ∧ (¬ (flag (s.zones.get z) ↔ flag (t.zones.get z)) → Posted .zoneChange t) ∧
         (old ≠ .fault → new = .fault → Stands alarm (.zone z) t) ∧
         (old = .fault → new ≠ .fault → Cleared alarm (.zone z) t)) ∧
        (∀ y, y ≠ z → t.zones.get y = s.zones.get y) ∧ PortsKept s t ∧
        t = { s with zones := t.zones, doors := t.doors, waits := t.waits, loop := t.loop, units := t.units,
                     defrostQueue := t.defrostQueue, alarms := t.alarms, ports := t.ports })

/-- R5 to R9: the probe machine. `joined` is the history with the sample at its newest end, the oldest dropped from four. -/
def Obligations.ProbeMachine : Prop :=
  ∀ (p : Probe) (t : Int) (x : Sample),
    let joined := p.history.drop (p.history.length - 3) ++ [t]
    let mean := some (roundNearest joined.sum joined.length)
    (p.state = .ok → p.take (.good t) = { p with history := joined, filtered := mean, last := some (.good t) }) ∧
    (p.state = .suspect →
      p.take (.good t) = { p with state := .ok, bad := 0, history := joined, filtered := mean, last := some (.good t) }) ∧
    (p.state = .fault → p.good + 1 < 4 →
      p.take (.good t) = { p with good := p.good + 1, history := joined, last := some (.good t) }) ∧
    (p.state = .fault → 4 ≤ p.good + 1 →
      p.take (.good t) = { p with state := .ok, bad := 0, good := 0, history := joined, filtered := mean,
                                  last := some (.good t) }) ∧
    ((∀ y, x ≠ .good y) →
      (p.state = .ok → p.take x = { p with state := .suspect, bad := 1, last := some x }) ∧
      (p.state = .suspect → p.bad + 1 < 3 → p.take x = { p with bad := p.bad + 1, last := some x }) ∧
      (p.state = .suspect → 3 ≤ p.bad + 1 →
        p.take x = { p with state := .fault, bad := p.bad + 1, good := 0, history := [], last := some x }) ∧
      (p.state = .fault → p.take x = { p with good := 0, history := [], last := some x }))

/-- R4: the converter state takes a check result. -/
def Obligations.ReferenceCheckTable : Prop :=
  ∀ (a b : Nat) (s : State), s.power ≠ .off →
    let good := 4032 ≤ a ∧ a ≤ 4160 ∧ 12224 ≤ b ∧ b ≤ 12352
    let c := s.converter
    let becomes := fun (fault : Bool) (count : Nat) (al : AlarmList) => ∃ t, exec (.referenceCheck a b) s = .next t ∧
      t = { s with converter := ⟨fault, count, true, 0⟩, alarms := al, ports := t.ports } ∧ PortsKept s t ∧
      OnlyNotices [.alarmChange] s t
    (c.fault = false → good → becomes false c.goodCount s.alarms) ∧
    (c.fault = false → ¬ good → becomes true 0 (raise .converterFault .none s).alarms) ∧
    (c.fault = true → ¬ good → becomes true 0 s.alarms) ∧
    (c.fault = true → good → c.goodCount = 0 → becomes true 1 s.alarms) ∧
    (c.fault = true → good → c.goodCount = 1 → becomes false 0 (clear .converterFault .none s).alarms)

/-- R13 to R17, R146: at an air sample the three conditions of its zone are judged by the tables of R13, R14 and R16, or kept while frozen
(R15); a condition that leaves ACTIVE clears its alarm with ZONE CHANGE; and a unit in RECOVER whose air is now cold returns to IDLE, which
ends the bypass (R16). `u` is the state before the queue service. (The count of the stopped phase timer is the model's reading:
notes/assumptions/8.md; so is that the recovery test follows the conditions: notes/assumptions/12.md.) -/
def Obligations.ConditionsFollowTheAir : Prop :=
  ∀ (z : ZoneId) (code : Nat) (s : State), s.power = .running → s.converter.sweepBegun = true → (zoneEntry s z).kind ≠ .unused →
    let e := zoneEntry s z
    let x := s.units.get z
    let air := (s.zones.get z).air.take (classify s.converter.fault e.airSpan e.airOffset code)
    let cold := air.state ≠ .fault ∧ ∃ v, air.filtered = some v ∧ v ≤ e.setpoint + e.recoveryBand
    ∃ t u, exec (.conversionComplete ⟨2 * z.val, by omega⟩ code) s = .next t ∧ t = settle u ∧ t.zones = u.zones ∧
      u.zones.get z = ruledZone e x.state.bypasses { s.zones.get z with air := air } ∧
      (∀ y, y ≠ z → u.zones.get y = s.zones.get y) ∧ ToldOfExits z (s.zones.get z) (u.zones.get z) u ∧
      (x.state = .recover → cold → u.units.get z = { x with state := .idle, phase := x.phase.stop } ∧ Posted .defrostPhase u) ∧
      (x.state ≠ .recover ∨ ¬ cold → u.units.get z = x) ∧ UnitsKeptBut z s u ∧ PortsKept s u ∧
      OnlyNotices [.alarmChange, .zoneChange, .defrostPhase] s u ∧
      u = { s with zones := u.zones, units := u.units, alarms := u.alarms, ports := u.ports }

/-- R13, R15, R16, R17: a delay timer expires only in PENDING, outside the freeze and the bypass; the condition enters ACTIVE. (The count an
ACTIVE condition keeps is the model's reading: notes/assumptions/8.md.) -/
def Obligations.ConditionTimerExpires : Prop :=
  ∀ (z : ZoneId) (k : ConditionKind) (s : State), s.power = .running →
    let c := (s.zones.get z).condition k
    let air := (s.zones.get z).air
    let runs := c.state = .pending ∧ air.state ≠ .fault ∧ air.filtered ≠ none ∧
      ((unitState s z).bypasses = false ∨ k = .low)
    (¬ runs → exec (.conditionTimerExpiry z k) s = .next s) ∧
    (runs → ∃ t, exec (.conditionTimerExpiry z k) s = .next t ∧
      t.zones.get z = (s.zones.get z).withCondition k ⟨.active, (zoneEntry s z).alarmDelay⟩ ∧
      (∀ y, y ≠ z → t.zones.get y = s.zones.get y) ∧
      t.alarms = (raise (match k with
        | .highWarn => .zoneHighWarn
        | .high => .zoneHigh
        | .low => .zoneLow) (.zone z) s).alarms ∧
      Posted .zoneChange t ∧ PortsKept s t ∧ OnlyNotices [.alarmChange, .zoneChange] s t ∧
      t = { s with zones := t.zones, alarms := t.alarms, ports := t.ports })

/-- R10, R11, R25 to R28, R30 to R34: the accrual temperature, the substitution flag and the substitute of a used zone, the unresolved charging
temperature and a route zone's contribution, each by its table; and one record's charge for a period at the temperature its location
gives; its dwell grows in the cases of R33 (`DwellGrows`). -/
def Obligations.ChargeOfOneRecord : Prop :=
  ∀ (s : State) (p : Pallet) (secs : Nat),
    let high := fun (z : ZoneId) => (zoneEntry s z).highAlarm
    let used := fun (z : ZoneId) => (zoneEntry s z).kind ≠ .unused
    -- R10, R11
    (∀ z, used z →
      let a := (s.zones.get z).air
      (a.state ≠ .fault → ∀ v, a.filtered = some v → accrualTemp s z = cut v ∧ substitutionFlag s z = false) ∧
      (a.state = .fault → ∀ v, a.filtered = some v → accrualTemp s z = cut (max v (high z)) ∧ substitutionFlag s z = true) ∧
      (a.filtered = none → accrualTemp s z = cut (high z) ∧ substitutionFlag s z = true) ∧
      substitute s z = cut (max (accrualTemp s z) (high z))) ∧
    -- R28
    ((∀ z, ¬ used z) → unresolvedTemp s = 500) ∧
    ((∃ z, used z) → (∃ z, used z ∧ unresolvedTemp s = cut (high z)) ∧ ∀ z, used z → cut (high z) ≤ unresolvedTemp s) ∧
    -- R27
    (∀ (origin : Place) (dest : Dest) (z : ZoneId),
      let inDoubt := ∃ d, (origin = .trailer d ∨ dest = .door d) ∧ doorZone s d = z ∧ (doorState s d = .breach ∨ doorState s d = .lost)
      (inDoubt → contribution s origin dest z = (substitute s z, true)) ∧
      (¬ inDoubt → ¬ used z → contribution s origin dest z = (unresolvedTemp s, true)) ∧
      (¬ inDoubt → used z → contribution s origin dest z = (accrualTemp s z, substitutionFlag s z))) ∧
    -- the charge
    let c := classEntry s p.cls
    let q := chargedPallet s secs p
    let charged := fun (temp : Int) (mark : Bool) =>
      let sum := p.residue + (temp - c.threshold).toNat * secs
      q.account = min 65535 (p.account + sum / 60) ∧ (q.account < 65535 → q.residue = sum - 60 * (sum / 60)) ∧
      (q.account = 65535 → q.residue = 0) ∧ q.estimated = (p.estimated || mark) ∧
      q.peak = some (match p.peak with
        | none => temp
        | some x => max x temp) ∧
      q.status = (if c.budget ≤ q.account then .over
        else if c.budget * c.warnPercent / 100 ≤ q.account then .warning else .normal)
    let uncharged := q.account = p.account ∧ q.residue = p.residue ∧ q.estimated = p.estimated ∧ q.peak = p.peak ∧
      q.status = p.status
    (∀ l, p.location = .at (.lane l) → charged (accrualTemp s (laneZone s l)) (substitutionFlag s (laneZone s l))) ∧
    (∀ z, p.location = .at (.bulk z) → charged (accrualTemp s z) (substitutionFlag s z)) ∧
    (∀ d, p.location = .at (.trailer d) → match doorState s d with
      | .opened | .closing => charged (accrualTemp s (doorZone s d)) (substitutionFlag s (doorZone s d))
      | .breach | .lost => charged (substitute s (doorZone s d)) true
      | _ => uncharged) ∧
    (∀ t, p.location = .transit t → t.route ≠ [] → ∃ temp mark, charged temp mark ∧
      let gives := fun z => contribution s t.origin t.dest z
      (∃ z ∈ t.route, (gives z).1 = temp) ∧ (∀ z ∈ t.route, (gives z).1 ≤ temp) ∧
      (mark = true ↔ ∃ z ∈ t.route, (gives z).2 = true)) ∧
    (p.location = .unresolved → charged (unresolvedTemp s) true) ∧
    -- R33
    (DwellGrows s p.location → q.dwell = min 65535 (p.dwell + secs)) ∧ (¬ DwellGrows s p.location → q.dwell = p.dwell) ∧
    (q.tag = p.tag ∧ q.cls = p.cls ∧ q.location = p.location ∧ q.overridden = p.overridden ∧ q.arrived = p.arrived ∧
      q.moves = p.moves ∧ q.history = p.history)

/-- R23, R24: the period expires: every record not charged for it yet is charged once, the stamp takes the clock, and the next period has the
working profile's length. PALLET_CHARGE is one record's charge taken before the others (notes/assumptions/3.md). -/
def Obligations.PeriodExpiryChargesEveryRecord : Prop :=
  ∀ (s : State) (secs : Nat), s.power = .running → s.exposure.period = some secs → (s.pallets.map Pallet.tag).Nodup → Settled s →
    (∃ t, exec .accrualPeriodExpiry s = .next t ∧
      (t.pallets = s.pallets.map fun p => { (if p.charged then p else chargedPallet s secs p) with charged := false }) ∧
      t.exposure = ⟨some s.profile.global.accrualPeriod, 0, s.clock⟩ ∧ PortsKept s t ∧
      ((∃ p ∈ s.pallets, p.charged = false ∧ (chargedPallet s secs p).status ≠ p.status) → Posted .palletStatus t) ∧
      (∀ p ∈ s.pallets, p.charged = false →
        let q := chargedPallet s secs p
        let limit := 60 * (classEntry s p.cls).maxDwell
        (p.status ≠ .over → q.status = .over → Stands .palletOver (.tag p.tag) t) ∧
        (p.dwell ≤ limit → limit < q.dwell → Stands .dwellExceeded (.tag p.tag) t)) ∧
      t = { s with exposure := t.exposure, pallets := t.pallets, units := t.units, defrostQueue := t.defrostQueue,
                   alarms := t.alarms, ports := t.ports }) ∧
    ∀ p ∈ s.pallets,
      (p.charged = true → exec (.palletCharge p.tag) s = .next s) ∧
      (p.charged = false → ∃ t, exec (.palletCharge p.tag) s = .next t ∧
        findPallet t p.tag = some (chargedPallet s secs p) ∧ (chargedPallet s secs p).charged = true ∧
        PalletsKeptBut p.tag s t ∧ PortsKept s t ∧
        (p.status ≠ .over → (chargedPallet s secs p).status = .over → Stands .palletOver (.tag p.tag) t) ∧
        (p.dwell ≤ 60 * (classEntry s p.cls).maxDwell →
          60 * (classEntry s p.cls).maxDwell < (chargedPallet s secs p).dwell → Stands .dwellExceeded (.tag p.tag) t) ∧
        t = { s with pallets := t.pallets, units := t.units, defrostQueue := t.defrostQueue, alarms := t.alarms,
                     ports := t.ports })

/-! ## Doors -/

/-- R87, R89 to R99, R102, R59, R100, R108, R112: what a station's report does to its door, its stamps, its zone's wait queue, its permit and
the pallets aboard it, and that it leaves everything else alone. TRAILER LEFT is
raised for a trailer that leaves unreleased or is found gone, and not otherwise: not for a RELEASED door, nor for a LOST one whose origin is
VACANT or RELEASED, or that has neither origin nor assignment. (The counts at which the stopped open, seal and loss timers stay are the
model's reading: notes/assumptions/8.md.) -/
def Obligations.DoorTakesAReport : Prop :=
  ∀ (d : DoorId) (r : Report) (s : State),
    let x := s.doors.get d
    let t := takeReport d r s
    let y := t.doors.get d
    let holds := r.restraint = true ∧ (doorEntry s d).sealThreshold ≤ r.pressure
    let low := r.pressure < lossThreshold (doorEntry s d)
    let closed := r.position = .closed
    let had := fun (o : DoorState) => o = .docked ∨ o = .sealing ∨ o = .sealed ∨ o = .opened ∨ o = .closing ∨ o = .breach
    let left := r.presence = false ∧ (had x.state ∨ (x.state = .lost ∧ match x.lossOrigin with
      | some o => had o
      | none => x.assignment ≠ none))
    -- the entries to DOCKED and to SEALED, whose stamps are taken (R87)
    let docks := r.presence = true ∧ (x.state = .vacant ∨ x.state = .lost ∨ (x.state = .sealing ∧ ¬ holds) ∨
      (x.state = .sealed ∧ r.restraint = false) ∨ ((x.state = .opened ∨ x.state = .closing) ∧ r.restraint = false ∧ closed) ∨
      (x.state = .breach ∧ closed))
    let shuts := r.presence = true ∧ r.restraint = true ∧ closed ∧
      (x.state = .closing ∨ (x.state = .opened ∧ x.openingSeen = true))
    -- the trailer is gone from a door that had it; an open door breaches; the door departs from OPEN or CLOSING, or is gone
    let gone := had x.state ∧ r.presence = false
    let breaches := r.presence = true ∧ r.restraint = false ∧ (x.state = .opened ∨ x.state = .closing)
    let parts := gone ∨ shuts ∨ breaches
    let unseals := gone ∨ (r.presence = true ∧ r.restraint = false ∧ (x.state = .sealed ∨ x.state = .opened ∨ x.state = .closing))
    let begins := r.presence = true ∧ holds ∧ (x.state = .vacant ∨ x.state = .lost ∨ x.state = .docked)
    let vacates := r.presence = false ∧ (had x.state ∨ x.state = .released ∨ x.state = .lost)
    (x.state = .disabled → t = s) ∧
    (x.state ≠ .disabled →
      y.view = ⟨some r.presence, some r.restraint, some r.position, some r.pressure, false⟩ ∧
      (closed → y.forced = false) ∧
      (¬ closed → y.forced = (x.forced || (y.state != .opened && y.state != .closing))) ∧
      (x.forced = false → y.forced = true → Stands .doorForced (.door d) t) ∧
      (x.forced = true → y.forced = false → Cleared .doorForced (.door d) t) ∧
      (y.state ≠ x.state ∨ y.forced ≠ x.forced → Posted .doorChange t) ∧
      (docks → y.dockedAt = some s.clock) ∧ (¬ docks → y.dockedAt = x.dockedAt) ∧
      (shuts → y.sealedAt = some s.clock) ∧ (¬ shuts → y.sealedAt = x.sealedAt) ∧
      y.openedAt = x.openedAt ∧ y.releasedAt = x.releasedAt ∧
      (left → Recorded .trailerLeft (.door d) t) ∧
      (¬ left → t.alarms.find .trailerLeft (.door d) = s.alarms.find .trailerLeft (.door d)) ∧
      -- a trailer leaves, is found gone, or has been released
      (had x.state → r.presence = false →
        y.state = .vacant ∧ y.sealTimer = x.sealTimer.stop ∧
        t.pallets = unresolvedAboard d s ∧ (aboard s d ≠ 0 → Posted .unresolved t) ∧
        (x.state = .breach → Cleared .doorBreach (.door d) t)) ∧
      (x.state = .released → y.state = if r.presence then .released else .vacant) ∧
      (x.state = .lost → y.lossOrigin = none ∧ (r.presence = false → y.state = .vacant ∧
        t.pallets = unresolvedAboard d s ∧ (aboard s d ≠ 0 → Posted .unresolved t)) ∧
        (r.presence = true → t.pallets = s.pallets)) ∧
      (vacates → y.assignment = none) ∧ (¬ vacates → y.assignment = x.assignment) ∧
      -- docking and sealing
      (x.state = .vacant → r.presence = false → y.state = .vacant) ∧
      (x.state = .vacant ∨ x.state = .lost → r.presence = true →
        (holds → y.state = .sealing ∧ y.sealTimer = ⟨true, 0⟩) ∧ (¬ holds → y.state = .docked)) ∧
      (x.state = .docked → r.presence = true →
        (holds → y.state = .sealing ∧ y.sealTimer = ⟨true, 0⟩) ∧ (¬ holds → y.state = .docked)) ∧
      (x.state = .sealing → r.presence = true →
        (holds → y.state = .sealing ∧ y.sealTimer = x.sealTimer) ∧
        (¬ holds → y.state = .docked ∧ y.sealTimer = x.sealTimer.stop)) ∧
      (x.state = .sealed → r.presence = true →
        (r.restraint = true → y.state = .sealed) ∧ (r.restraint = false → y.state = .docked)) ∧
      (begins ∨ gone ∨ (x.state = .sealing ∧ ¬ holds) ∨ y.sealTimer = x.sealTimer) ∧
      -- opening and closing
      (x.state = .opened → r.presence = true → r.restraint = true →
        (¬ closed → y.state = .opened ∧ y.openingSeen = true) ∧
        (closed → x.openingSeen = false → y.state = .opened ∧ y.openingSeen = false) ∧
        (closed → x.openingSeen = true → y.state = .sealed)) ∧
      (x.state = .closing → r.presence = true → r.restraint = true →
        (¬ closed → y.state = .closing) ∧ (closed → y.state = .sealed)) ∧
      (x.state = .opened ∨ x.state = .closing → r.presence = true → r.restraint = false →
        (¬ closed → y.state = .breach ∧ Stands .doorBreach (.door d) t) ∧
        (closed → y.state = .docked ∧ Cleared .doorBreach (.door d) t)) ∧
      (x.state = .breach → r.presence = true →
        (¬ closed → y.state = .breach) ∧ (closed → y.state = .docked ∧ Cleared .doorBreach (.door d) t)) ∧
      (breaches → y.breachCause = some .restraint) ∧ (¬ breaches → y.breachCause = x.breachCause) ∧
      (shuts ∨ breaches → y.openingSeen = false) ∧
      (shuts ∨ breaches ∨ (x.state = .opened ∧ r.presence = true ∧ ¬ closed) ∨ y.openingSeen = x.openingSeen) ∧
      -- the open timer runs on, with its condition and the permit, until the door departs
      (parts → y.openTimer = x.openTimer.stop ∧ y.openLong = false ∧ (x.openLong = true → Cleared .doorOpenLong (.door d) t) ∧
        t.loop.stations.get d = { s.loop.stations.get d with permit := false }) ∧
      (¬ parts → y.openTimer = x.openTimer ∧ y.openLong = x.openLong ∧ t.loop.stations.get d = s.loop.stations.get d) ∧
      -- a door shut after its trailer was emptied or its load accepted (R108)
      (let ready := (x.state = .opened ∨ x.state = .closing) ∧ y.state = .sealed ∧ x.assignment ≠ none ∧ aboard s d = 0 ∧
         s.manifests.get d = []
       (ready → Posted .releaseReady t) ∧
       (¬ ready → ∀ q, (t.port q).pending &&& NoticeKind.releaseReady.bit = (s.port q).pending &&& NoticeKind.releaseReady.bit)) ∧
      -- the loss delay timer
      (x.state = .sealed ∨ x.state = .opened ∨ x.state = .closing → r.presence = true → r.restraint = true →
        (low → x.lossTimer.running = true → y.lossTimer = x.lossTimer) ∧
        (low → x.lossTimer.running = false → y.lossTimer = ⟨true, 0⟩) ∧ (¬ low → y.lossTimer = x.lossTimer.stop)) ∧
      (unseals → y.lossTimer = x.lossTimer.stop) ∧
      (unseals ∨ x.state = .sealed ∨ x.state = .opened ∨ x.state = .closing ∨ y.lossTimer = x.lossTimer) ∧
      -- the wait queue: the door leaves it from its position, and the others keep their order (R112)
      (t.waits.get (doorZone s d) = if gone ∨ (x.state = .sealed ∧ r.restraint = false)
        then (s.waits.get (doorZone s d)).filter (fun e => e != d) else s.waits.get (doorZone s d)) ∧
      (∀ z, z ≠ doorZone s d → t.waits.get z = s.waits.get z) ∧
      -- what a report leaves alone
      DoorsKeptBut d s t ∧ PortsKept s t ∧ OnlyNotices [.doorChange, .alarmChange, .unresolved, .releaseReady] s t ∧
      AlarmsKeptBut (fun k sub => sub == .door d && (
        (k == .doorForced && y.forced != x.forced) || k == .trailerLeft ||
        (k == .doorOpenLong && x.openLong && !y.openLong) ||
        (k == .doorBreach && (x.state == .breach || x.state == .opened || x.state == .closing) && y.state != x.state))) s t ∧
      (x.state ≠ .lost → y.lossOrigin = x.lossOrigin) ∧
      (∀ k, k ≠ d → t.loop.stations.get k = s.loop.stations.get k) ∧
      (had x.state → r.presence = true → t.pallets = s.pallets) ∧
      (x.state = .vacant ∨ x.state = .released → t.pallets = s.pallets) ∧
      t = { s with doors := t.doors, waits := t.waits, loop := { s.loop with stations := t.loop.stations }, pallets := t.pallets,
                   alarms := t.alarms, ports := t.ports })

/-- R87, R91, R92, R93, R94, R100: the seal delay, the loss delay and the max open time run out. `u` is the state before the queue service. (The
counts at which the stopped timers stay are the model's reading: notes/assumptions/8.md; that DOOR OPEN LONG is cleared before DOOR BREACH is
raised, and that a door that becomes SEALED has its reported pressure judged by the threshold then in the working copy, are its choices, 31.md
and 32.md.) -/
def Obligations.DoorTimersExpire : Prop :=
  ∀ (d : DoorId) (s : State), s.power = .running →
    let x := s.doors.get d
    let e := doorEntry s d
    let low := match x.view.pressure with
      | some p => p < lossThreshold e
      | none => False
    let permit := (s.loop.stations.get d)
    (x.state = .sealing → x.sealTimer.running = true → ∃ u, exec (.sealDelayExpiry d) s = .next (settle u) ∧
      u.doors.get d = { x with state := .sealed, sealedAt := some s.clock, sealTimer := ⟨false, e.sealDelay⟩,
                               lossTimer := (u.doors.get d).lossTimer } ∧
      (low → (u.doors.get d).lossTimer = ⟨true, 0⟩) ∧ (¬ low → (u.doors.get d).lossTimer = x.lossTimer) ∧
      DoorsKeptBut d s u ∧ Posted .doorChange u ∧ PortsKept s u ∧ OnlyNotices [.doorChange] s u ∧
      u = { s with doors := u.doors, ports := u.ports }) ∧
    (x.state = .sealed → x.lossTimer.running = true → ∃ u, exec (.lossDelayExpiry d) s = .next (settle u) ∧
      u.doors.get d = { x with state := .docked, dockedAt := some s.clock, lossTimer := ⟨false, e.lossDelay⟩ } ∧ DoorsKeptBut d s u ∧
      u.waits.get (doorZone s d) = (s.waits.get (doorZone s d)).filter (fun y => y != d) ∧
      (∀ z, z ≠ doorZone s d → u.waits.get z = s.waits.get z) ∧ Posted .doorChange u ∧ PortsKept s u ∧
      OnlyNotices [.doorChange] s u ∧ u = { s with doors := u.doors, waits := u.waits, ports := u.ports }) ∧
    (x.state = .opened ∨ x.state = .closing → x.lossTimer.running = true → ∃ u, exec (.lossDelayExpiry d) s = .next (settle u) ∧
      u.doors.get d = { x with state := .breach, breachCause := some .seal, openingSeen := false, openLong := false,
                               openTimer := x.openTimer.stop, lossTimer := ⟨false, e.lossDelay⟩ } ∧ DoorsKeptBut d s u ∧
      u.loop.stations.get d = { permit with permit := false } ∧
      (∀ k, k ≠ d → u.loop.stations.get k = s.loop.stations.get k) ∧
      u.alarms = (raise .doorBreach (.door d) (if x.openLong then clear .doorOpenLong (.door d) s else s)).alarms ∧
      Posted .doorChange u ∧ PortsKept s u ∧ OnlyNotices [.doorChange, .alarmChange] s u ∧
      u = { s with doors := u.doors, loop := { s.loop with stations := u.loop.stations }, alarms := u.alarms, ports := u.ports }) ∧
    (x.state = .opened → x.openTimer.running = true → x.openLong = false → ∃ t, exec (.openLongExpiry d) s = .next t ∧
      t.doors.get d = { x with openLong := true, openTimer := ⟨true, max x.openTimer.count (60 * e.maxOpenTime)⟩ } ∧
      DoorsKeptBut d s t ∧ t.alarms = (raise .doorOpenLong (.door d) s).alarms ∧ PortsKept s t ∧
      OnlyNotices [.alarmChange] s t ∧ t = { s with doors := t.doors, alarms := t.alarms, ports := t.ports })

/-- R103, R107: TRAILER ASSIGN and TRAILER RELEASE, their checks in order and their effects. (The count at which the stopped loss delay timer
stays is the model's reading: notes/assumptions/8.md.) -/
def Obligations.AssignAndRelease : Prop :=
  ∀ (d : DoorId) (s : State), Ready .door s →
    let x := s.doors.get d
    let busy := aboard s d + manifestSize s d
    let assign := fun (trailer dir : Nat) => Instr.trailerAssign .door (d.val + 1) trailer dir
    (∀ n, n = 0 ∨ 24 < n → Refuses .door .trailerRelease .param (.trailerRelease .door n) s ∧
      ∀ trailer dir, Refuses .door .trailerAssign .param (.trailerAssign .door n trailer dir) s) ∧
    (∀ trailer dir, trailer = 0 ∨ direction? dir = none → Refuses .door .trailerAssign .param (assign trailer dir) s) ∧
    (∀ trailer dir dr, trailer ≠ 0 → direction? dir = some dr →
      (x.state ≠ .docked → x.state ≠ .sealing → x.state ≠ .sealed → Refuses .door .trailerAssign .state (assign trailer dir) s) ∧
      (x.state = .docked ∨ x.state = .sealing ∨ x.state = .sealed →
        (busy ≠ 0 → Refuses .door .trailerAssign .pending (assign trailer dir) s) ∧
        (busy = 0 → ∃ t, exec (assign trailer dir) s = .next t ∧ Accepted .door .trailerAssign .ok [] [.doorChange] s t ∧
          t.doors.get d = { x with assignment := some ⟨trailer, dr⟩ } ∧ DoorsKeptBut d s t ∧
          (x.assignment ≠ some ⟨trailer, dr⟩ → Posted .doorChange t) ∧
          (x.assignment = some ⟨trailer, dr⟩ → OnlyNotices [] (takeFrame .door s) t) ∧
          t = { s with doors := t.doors, alarms := (takeFrame .door s).alarms, ports := t.ports }))) ∧
    (x.state ≠ .sealed → Refuses .door .trailerRelease .state (.trailerRelease .door (d.val + 1)) s) ∧
    (x.state = .sealed → busy + transitsTouching s d ≠ 0 →
      Refuses .door .trailerRelease .pending (.trailerRelease .door (d.val + 1)) s) ∧
    (x.state = .sealed → busy + transitsTouching s d = 0 → ∃ t, exec (.trailerRelease .door (d.val + 1)) s = .next t ∧
      Accepted .door .trailerRelease .ok [] [.doorChange] s t ∧ Posted .doorChange t ∧
      t.doors.get d = { x with state := .released, releasedAt := some s.clock, lossTimer := x.lossTimer.stop } ∧
      DoorsKeptBut d s t ∧ t.waits.get (doorZone s d) = (s.waits.get (doorZone s d)).filter (fun y => y != d) ∧
      (∀ z, z ≠ doorZone s d → t.waits.get z = s.waits.get z) ∧
      t = { s with doors := t.doors, waits := t.waits, alarms := (takeFrame .door s).alarms, ports := t.ports })

/-- R104, R105, R109 to R111: a zone's open count, number of forced doors, limit in force and whether it allows an open; and DOOR OPEN, which
opens the door at once, or queues it behind every door that waits. -/
def Obligations.DoorOpenOpensOrQueues : Prop :=
  (∀ (z : ZoneId) (s : State),
    let most := (zoneEntry s z).maxOpen
    let high := (s.zones.get z).high.state = .active
    let u := s.units.get z
    openCount s z =
      (allDoors.filter fun d => decide (doorZone s d = z ∧ (doorState s d = .opened ∨ doorState s d = .closing))).length ∧
    forcedCount s z = (allDoors.filter fun d => decide (doorZone s d = z ∧ (s.doors.get d).forced = true)).length ∧
    (¬ high → limitInForce s z = most) ∧ (high → most = 0 → limitInForce s z = 0) ∧
    (high → 1 ≤ most → limitInForce s z = if most / 2 = 0 then 1 else most / 2) ∧
    (allowsOpen s z = true ↔ u.state ≠ .pumpdown ∧ u.state ≠ .heat ∧ u.state ≠ .drip ∧
      ¬ (u.state = .requested ∧ u.urgent = true) ∧ openCount s z < limitInForce s z)) ∧
  ∀ (d : DoorId) (s : State), Ready .door s → Settled s →
    let x := s.doors.get d
    let z := doorZone s d
    let seen := x.view.position = some .moving ∨ x.view.position = some .opened
    let refused := fun (res : Result) => Refuses .door .doorOpen res (.doorOpen .door (d.val + 1)) s
    (∀ n, n = 0 ∨ 24 < n → Refuses .door .doorOpen .param (.doorOpen .door n) s) ∧
    (x.state ≠ .sealed ∨ x.assignment = none → refused .state) ∧
    (x.state = .sealed → x.assignment ≠ none → d ∈ s.waits.get z → refused .duplicate) ∧
    (x.state = .sealed → x.assignment ≠ none → d ∉ s.waits.get z → allowsOpen s z = true → s.waits.get z = [] →
      ∃ t, exec (.doorOpen .door (d.val + 1)) s = .next t ∧
        Accepted .door .doorOpen .ok [] [.doorChange, .alarmChange] s t ∧ Posted .doorChange t ∧
        t.doors.get d = { x with state := .opened, openedAt := some s.clock, openTimer := ⟨true, 0⟩, forced := false,
                                 openingSeen := (t.doors.get d).openingSeen } ∧
        ((t.doors.get d).openingSeen = true ↔ seen) ∧ DoorsKeptBut d s t ∧
        t.loop.stations.get d = { s.loop.stations.get d with permit := true } ∧
        (∀ k, k ≠ d → t.loop.stations.get k = s.loop.stations.get k) ∧ openCount t z = openCount s z + 1 ∧
        t.alarms = (if x.forced then clear .doorForced (.door d) (takeFrame .door s) else takeFrame .door s).alarms ∧
        t = { s with doors := t.doors, loop := { s.loop with stations := t.loop.stations }, alarms := t.alarms,
                     ports := t.ports }) ∧
    (x.state = .sealed → x.assignment ≠ none → d ∉ s.waits.get z → (allowsOpen s z = false ∨ s.waits.get z ≠ []) →
      ∃ t, exec (.doorOpen .door (d.val + 1)) s = .next t ∧ Accepted .door .doorOpen .queued [] [] s t ∧
        t.waits.get z = s.waits.get z ++ [d] ∧ (∀ y, y ≠ z → t.waits.get y = s.waits.get y) ∧
        t = { s with waits := t.waits, alarms := (takeFrame .door s).alarms, ports := t.ports })

/-- R106: DOOR CLOSE takes an OPEN door to CLOSING, withdraws a queued open, and is refused otherwise. (The count at which the stopped open
timer stays is the model's reading: notes/assumptions/8.md.) -/
def Obligations.DoorCloseByState : Prop :=
  ∀ (d : DoorId) (s : State), Ready .door s →
    let x := s.doors.get d
    let z := doorZone s d
    (∀ n, n = 0 ∨ 24 < n → Refuses .door .doorClose .param (.doorClose .door n) s) ∧
    (x.state = .opened → ∃ t, exec (.doorClose .door (d.val + 1)) s = .next t ∧
      Accepted .door .doorClose .ok [] [.doorChange, .alarmChange] s t ∧ Posted .doorChange t ∧
      t.doors.get d = { x with state := .closing, openTimer := x.openTimer.stop, openLong := false } ∧ DoorsKeptBut d s t ∧
      t.loop.stations.get d = { s.loop.stations.get d with permit := false } ∧
      (∀ k, k ≠ d → t.loop.stations.get k = s.loop.stations.get k) ∧ openCount t z = openCount s z ∧
      t.alarms = (if x.openLong then clear .doorOpenLong (.door d) (takeFrame .door s) else takeFrame .door s).alarms ∧
      t = { s with doors := t.doors, loop := { s.loop with stations := t.loop.stations }, alarms := t.alarms, ports := t.ports }) ∧
    (x.state = .sealed → d ∈ s.waits.get z → ∃ t, exec (.doorClose .door (d.val + 1)) s = .next t ∧
      Accepted .door .doorClose .ok [] [] s t ∧ t.waits.get z = (s.waits.get z).filter (fun y => y != d) ∧
      (∀ y, y ≠ z → t.waits.get y = s.waits.get y) ∧
      t = { s with waits := t.waits, alarms := (takeFrame .door s).alarms, ports := t.ports }) ∧
    (x.state ≠ .opened → (x.state ≠ .sealed ∨ d ∉ s.waits.get z) →
      Refuses .door .doorClose .state (.doorClose .door (d.val + 1)) s)

/-! ## The door loop -/

/-- R125: the next POLL of the round, to the next OK entry in ascending order, with the permit bit of its door. -/
def Obligations.PollCarriesThePermit : Prop :=
  ∀ s : State, s.power = .running →
    (s.loop.mode = .addressing ∨ s.loop.window ≠ .idle ∨ (∀ k, (s.loop.stations.get k).state ≠ .ok) →
      exec .loopPollSend s = .next s) ∧
    (s.loop.mode = .polling → s.loop.window = .idle → (∃ k, (s.loop.stations.get k).state = .ok) →
      ∃ t k, exec .loopPollSend s = .next t ∧ (s.loop.stations.get k).state = .ok ∧
        (let above := fun (j : DoorId) => match s.loop.lastPolled with
          | none => True
          | some i => i.val < j.val
         ((above k ∧ ∀ j, (s.loop.stations.get j).state = .ok → above j → k.val ≤ j.val) ∨
          ((∀ j, (s.loop.stations.get j).state = .ok → ¬ above j) ∧
            ∀ j, (s.loop.stations.get j).state = .ok → k.val ≤ j.val))) ∧
        (let bytes : List Byte := [BitVec.ofNat 8 (k.val + 1), if (s.loop.stations.get k).permit then 0x81 else 0x80]
         t = { s with loop := { s.loop with sent := [bytes ++ [crc8 bytes]], window := .poll k, lastPolled := some k } }) ∧
        (PermitInv s → ((s.loop.stations.get k).permit = true ↔ doorState s k = .opened)))

/-- R126 to R128, R101: a reply window of the round closes: a good reply, a miss, and the loss of a station at its third miss or at a reply with the
reset bit. `u` is the state before the queue service. (The counts at which the lost door's stopped timers stay are the model's reading:
notes/assumptions/8.md; that a reply of a wrong length is not good, and not silence, is its choice, 29.md, and both are a miss here.) -/
def Obligations.PollReplyIsJudged : Prop :=
  ∀ (k : DoorId) (reply : Option (List Byte)) (s : State), s.power = .running → s.loop.mode = .polling →
    s.loop.window = .poll k → (s.loop.stations.get k).state = .ok →
    let c := Instr.pollReplyWindowClose reply
    let e := s.loop.stations.get k
    let x := s.doors.get k
    let closed := fun (e' : Station) =>
      { s with loop := { s.loop with window := .idle, sent := [], stations := s.loop.stations.put k e' } }
    let lost := ∃ u, exec c s = .next (settle u) ∧
      u.loop.stations.get k = { e with state := .lost, misses := 3, permit := (u.loop.stations.get k).permit, lostAlarm := true } ∧
      (∀ j, j ≠ k → u.loop.stations.get j = s.loop.stations.get j) ∧
      u.loop = { s.loop with
        stations := u.loop.stations, window := .idle, sent := [], readdressing := true,
        attemptTimer := if s.loop.readdressing then s.loop.attemptTimer else 0 } ∧
      (x.state = .disabled ∨ x.state = .lost →
        u.doors.get k = x ∧ u.waits = s.waits ∧ (u.loop.stations.get k).permit = e.permit) ∧
      (x.state ≠ .disabled → x.state ≠ .lost → u.doors.get k = { x with
        state := .lost, lossOrigin := some x.state, openingSeen := false, openLong := false, openTimer := x.openTimer.stop,
        sealTimer := x.sealTimer.stop, lossTimer := x.lossTimer.stop, view := { x.view with stale := true } } ∧
        (u.loop.stations.get k).permit = false ∧ Posted .doorChange u ∧
        u.waits.get (doorZone s k) = (s.waits.get (doorZone s k)).filter (fun y => y != k) ∧
        (∀ z, z ≠ doorZone s k → u.waits.get z = s.waits.get z) ∧
        (x.openLong = true → Cleared .doorOpenLong (.door k) u) ∧ (x.state = .breach → Cleared .doorBreach (.door k) u)) ∧
      (e.lostAlarm = false → Stands .stationLost (.door k) u) ∧ DoorsKeptBut k s u ∧ Posted .loopChange u ∧ PortsKept s u ∧
      OnlyNotices [.loopChange, .doorChange, .alarmChange] s u ∧
      AlarmsKeptBut (fun a sub => sub == .door k &&
        ((a == .stationLost && !e.lostAlarm) || (a == .doorOpenLong && x.openLong) || (a == .doorBreach && x.state == .breach))) s u ∧
      u = { s with doors := u.doors, waits := u.waits, loop := u.loop, alarms := u.alarms, ports := u.ports }
    (∀ r, judgeReply k reply = .good r false → exec c s = .next (settle (takeReport k r (closed { e with misses := 0 })))) ∧
    (∀ r, judgeReply k reply = .good r true → lost) ∧
    (judgeReply k reply = .notGood ∨ judgeReply k reply = .silence →
      (e.misses + 1 < 3 → exec c s = .next (closed { e with misses := e.misses + 1 })) ∧ (3 ≤ e.misses + 1 → lost))

/-- R123, R124, R128, R130: the addressing run. `v` is the state in which entry k has been judged OK; `ends w` says that the run ends from `w`:
the in-service doors with no station found are LOST with their station views stale (the model's reading of R101 with R130:
notes/assumptions/28.md), and each STATION LOST alarm is raised or cleared with its condition; `u` is the state before the queue service.
(Also the model's: the counts of the lost doors' stopped timers, notes/assumptions/8.md; that a reply of a wrong length is not good, and not
silence, 29.md; the count 0 of a stopped attempt timer, 30.md.) -/
def Obligations.AddressingRunNamesStations : Prop :=
  ∀ (k : DoorId) (reply : Option (List Byte)) (s : State), s.power = .running →
    let c := Instr.addressingReplyWindow reply
    let v := { s with loop := { s.loop with
      stations := s.loop.stations.put k { s.loop.stations.get k with state := .ok, misses := 0 } } }
    let ends := fun (w : State) => ∃ u, exec c s = .next (settle u) ∧
      u.loop.mode = .polling ∧ u.loop.window = .idle ∧ u.loop.sent = [] ∧ u.loop.lastPolled = none ∧ u.loop.attemptTimer = 0 ∧
      (∀ j, (u.loop.stations.get j).state = (w.loop.stations.get j).state ∧
        (u.loop.stations.get j).misses = (w.loop.stations.get j).misses ∧
        ((u.loop.stations.get j).lostAlarm = true ↔ (w.loop.stations.get j).state = .lost ∨
          ((w.loop.stations.get j).state = .notFound ∧ inService s j = true)) ∧
        ((w.loop.stations.get j).lostAlarm = false → (u.loop.stations.get j).lostAlarm = true → Stands .stationLost (.door j) u) ∧
        ((w.loop.stations.get j).lostAlarm = true → (u.loop.stations.get j).lostAlarm = false → Cleared .stationLost (.door j) u) ∧
        (let x := w.doors.get j
         let unfound := (w.loop.stations.get j).state = .notFound ∧ inService s j = true
         (unfound → (x.state = .lost ∨ x.state = .disabled → u.doors.get j = { x with view := { x.view with stale := true } }) ∧
           (x.state ≠ .lost → x.state ≠ .disabled → u.doors.get j = lostRecord x ∧ Posted .doorChange u)) ∧
         (¬ unfound → u.doors.get j = x))) ∧
      (u.loop.readdressing = true ↔ ∃ j, (u.loop.stations.get j).lostAlarm = true) ∧
      (u.loop.readdressing = false → u.loop.breakIndex = none) ∧
      (u.loop.readdressing = true → ∃ b, u.loop.breakIndex = some b ∧ (w.loop.stations.get b).state ≠ .ok ∧
        ∀ j, j.val < b.val → (w.loop.stations.get j).state = .ok) ∧
      Posted .loopChange u ∧
      u = { w with doors := u.doors, waits := u.waits, loop := u.loop, alarms := u.alarms, ports := u.ports }
    let found := fun r =>
      (∀ h : k.val < 23,
        let j : DoorId := ⟨k.val + 1, by omega⟩
        let bytes : List Byte := [0, BitVec.ofNat 8 (0x40 + (k.val + 2))]
        let w := takeReport k r v
        exec c s = .next (settle { w with loop := { w.loop with sent := [bytes ++ [crc8 bytes]], window := .assign j } })) ∧
      (k.val = 23 → ends (takeReport k r v))
    (s.loop.window = .assign k →
      (∀ r b, judgeReply k reply = .good r b → found r) ∧
      (judgeReply k reply = .notGood →
        let bytes : List Byte := [BitVec.ofNat 8 (k.val + 1), 0x80]
        exec c s = .next { s with loop := { s.loop with sent := [bytes ++ [crc8 bytes]], window := .fallback k } }) ∧
      (judgeReply k reply = .silence → ends s)) ∧
    (s.loop.window = .fallback k →
      (∀ r, judgeReply k reply = .good r false → found r) ∧ (∀ r, judgeReply k reply = .good r true → ends s) ∧
      (judgeReply k reply = .notGood ∨ judgeReply k reply = .silence → ends s))

/-- R128, R129, R130: a re-addressing attempt, its two steps and its end; an attempt that has ended because re-addressing became inactive
(`DoorEditLeaves` says when) has its last reply window close unjudged. (The model's choices: that the attempt's next frame is sent at once and
that such a window stays open till it closes, notes/assumptions/15.md; that a reply of a wrong length is not good, and not silence, 29.md; that the stopped attempt timer holds 0,
30.md.) -/
def Obligations.ReaddressingWorksItsTarget : Prop :=
  ∀ (k : DoorId) (reply : Option (List Byte)) (s : State), s.power = .running → s.loop.mode = .polling →
    let c := Instr.readdressReplyWindow reply
    let pollBytes : List Byte := [BitVec.ofNat 8 (k.val + 1), 0x80]
    let assignBytes : List Byte := [0, BitVec.ofNat 8 (0x40 + (k.val + 1))]
    let target := fun (w : State) (j : DoorId) =>
      (w.loop.stations.get j).state ≠ .ok ∧ ∀ i, i.val < j.val → (w.loop.stations.get i).state = .ok
    let ended := ∃ t, exec c s = .next t ∧
      t = { s with loop := { s.loop with window := .idle, sent := [], breakIndex := some k }, ports := t.ports } ∧
      PortsKept s t ∧ (s.loop.breakIndex ≠ some k → Posted .loopChange t) ∧
      (s.loop.breakIndex = some k → t.ports = s.ports)
    let found := fun r => ∃ u, exec c s = .next (settle u) ∧
      (let w := takeReport k r { s with loop := { s.loop with
         stations := s.loop.stations.put k { s.loop.stations.get k with state := .ok, misses := 0 } } }
       u.doors = w.doors ∧ u.waits = w.waits ∧ u.pallets = w.pallets ∧
       (u.loop.stations.get k).permit = (w.loop.stations.get k).permit) ∧
      (∀ j, j ≠ k → u.loop.stations.get j = s.loop.stations.get j) ∧ u.loop.mode = .polling ∧ u.loop.lastPolled = s.loop.lastPolled ∧
      (u.loop.readdressing = true → u.loop.attemptTimer = s.loop.attemptTimer ∧ u.loop.breakIndex = s.loop.breakIndex) ∧
      PortsKept s u ∧
      u = { s with doors := u.doors, waits := u.waits, loop := u.loop, pallets := u.pallets, alarms := u.alarms, ports := u.ports } ∧
      (u.loop.stations.get k).state = .ok ∧ (u.loop.stations.get k).misses = 0 ∧ (u.loop.stations.get k).lostAlarm = false ∧
      ((s.loop.stations.get k).lostAlarm = true → Cleared .stationLost (.door k) u) ∧ Posted .loopChange u ∧
      (u.loop.readdressing = true ↔ ∃ j, (u.loop.stations.get j).state = .lost ∨
        ((u.loop.stations.get j).state = .notFound ∧ inService s j = true)) ∧
      (u.loop.readdressing = true → ∃ j : DoorId, target u j ∧ u.loop.window = .rePoll j ∧
        let bytes : List Byte := [BitVec.ofNat 8 (j.val + 1), 0x80]
        u.loop.sent = [bytes ++ [crc8 bytes]]) ∧
      (u.loop.readdressing = false → u.loop.window = .idle ∧ u.loop.sent = [] ∧ u.loop.breakIndex = none ∧ u.loop.attemptTimer = 0)
    -- an attempt that has ended with its window open
    (s.loop.window = .ended → exec c s = .next { s with loop := { s.loop with window := .idle, sent := [] } }) ∧
    (s.loop.readdressing = true →
    (s.loop.window = .idle → target s k → exec .readdressAttempt s = .next { s with loop := { s.loop with
      attemptTimer := 0, sent := [pollBytes ++ [crc8 pollBytes]], window := .rePoll k } }) ∧
    (s.loop.window = .rePoll k →
      (∀ r, judgeReply k reply = .good r false → found r) ∧
      ((∃ r, judgeReply k reply = .good r true) ∨ judgeReply k reply = .silence → exec c s = .next { s with loop := { s.loop with
        sent := [assignBytes ++ [crc8 assignBytes]], window := .reAssign k } }) ∧
      (judgeReply k reply = .notGood → ended)) ∧
    (s.loop.window = .reAssign k →
      (∀ r b, judgeReply k reply = .good r b → found r) ∧
      (judgeReply k reply = .notGood ∨ judgeReply k reply = .silence → ended)))

/-- R131: LOOP RESTART is refused while a door is OPEN or CLOSING or a run is under way; else it begins an addressing run. (That a restart taken
with a reply window open keeps the window, whose reply is not judged, and sends its UNASSIGN at its close is the model's choice: notes/assumptions/15.md; so are the counts at
which the lost doors' timers stop, 8.md, and the count 0 of the stopped attempt timer, 30.md.) -/
def Obligations.LoopRestartBeginsARun : Prop :=
  let frames : List (List Byte) := [[31, 0xC0, crc8 [31, 0xC0]], [0, 0x41, crc8 [0, 0x41]]]
  -- the window that stood open closes: the run goes on to its UNASSIGN, and the reply is not judged
  (∀ (s : State) (k : DoorId) (reply : Option (List Byte)), s.power = .running → s.loop.mode = .addressing →
    let t := { s with loop := { s.loop with window := .assign 0, sent := frames } }
    (s.loop.window = .poll k → exec (.pollReplyWindowClose reply) s = .next t) ∧
    (s.loop.window = .rePoll k ∨ s.loop.window = .reAssign k ∨ s.loop.window = .ended →
      exec (.readdressReplyWindow reply) s = .next t)) ∧
  ∀ s : State, Ready .door s →
    ((∃ d, (doorState s d).countsOpen = true) ∨ s.loop.mode = .addressing →
      Refuses .door .loopRestart .state (.loopRestart .door) s) ∧
    ((∀ d, (doorState s d).countsOpen = false) → s.loop.mode = .polling → ∃ t, exec (.loopRestart .door) s = .next t ∧
      Accepted .door .loopRestart .ok [] [.loopChange, .doorChange, .alarmChange] s t ∧ Posted .loopChange t ∧
      t.loop.mode = .addressing ∧ t.loop.readdressing = false ∧ t.loop.attemptTimer = 0 ∧ t.loop.breakIndex = none ∧
      (∀ k, (t.loop.stations.get k).state = .notFound ∧ (t.loop.stations.get k).misses = 0 ∧
        (t.loop.stations.get k).lostAlarm = (s.loop.stations.get k).lostAlarm) ∧
      (s.loop.window = .idle → t.loop.window = .assign 0 ∧ t.loop.sent = frames) ∧
      (s.loop.window ≠ .idle → t.loop.window = s.loop.window ∧ t.loop.sent = []) ∧
      (∀ d, let x := s.doors.get d
        if x.state = .disabled ∨ x.state = .lost then t.doors.get d = x
        else t.doors.get d = { x with
          state := .lost, lossOrigin := some x.state, openingSeen := false, openLong := false, openTimer := x.openTimer.stop,
          sealTimer := x.sealTimer.stop, lossTimer := x.lossTimer.stop, view := { x.view with stale := true } }) ∧
      (WaitsInv s → ∀ z, t.waits.get z = []) ∧
      t = { s with doors := t.doors, waits := t.waits, loop := t.loop, alarms := t.alarms, ports := t.ports })

/-- R120, R123, R188: the reply a station sends reads back as its report and reset bit, and a reply from any other address does not. -/
def Obligations.StationReplyReadsBack : Prop :=
  ∀ (k j : DoorId) (r : Report) (reset : Bool),
    goodReply k (replyBytes (k.val + 1) r reset) = some ({ r with pressure := min 4000 r.pressure }, reset) ∧
    (j ≠ k → goodReply j (replyBytes (k.val + 1) r reset) = none)

/-! ## Defrosts -/

/-- R136, R138 to R141: DEFROST REQUEST, its checks in order, and its answer OK with a grant or QUEUED. `atRisk` is R139's: located LANE or BULK
in the zone, NORMAL or WARNING, with less of its budget left than the class reserve. -/
def Obligations.DefrostRequestIsGrantedOrQueued : Prop :=
  ∀ (z : ZoneId) (s : State), Ready .plant s → Settled s → DefrostInv s →
    let c := Instr.defrostRequest .plant (z.val + 1)
    let x := s.units.get z
    let e := zoneEntry s z
    let atRisk := fun (p : Pallet) =>
      ((∃ l, p.location = .at (.lane l) ∧ laneZone s l = z) ∨ p.location = .at (.bulk z)) ∧
      (p.status = .normal ∨ p.status = .warning) ∧
      ((classEntry s p.cls).budget : Int) - p.account < (classEntry s p.cls).reserve
    let passes := slotsInUse s < s.profile.global.maxConcurrent ∧ openCount s z = 0 ∧ forcedCount s z = 0 ∧
      (e.maxDeferral = 0 ∨ ∀ p ∈ s.pallets, ¬ atRisk p)
    reserveRiskCount s z = (s.pallets.filter fun p => decide (atRisk p)).length ∧
    (∀ n, n = 0 ∨ 8 < n → Refuses .plant .defrostRequest .param (.defrostRequest .plant n) s) ∧
    (e.kind = .unused → Refuses .plant .defrostRequest .param c s) ∧
    (e.kind ≠ .unused → x.state ≠ .idle → Refuses .plant .defrostRequest .state c s) ∧
    (e.kind ≠ .unused → x.state = .idle → passes → ∃ t, exec c s = .next t ∧
      Accepted .plant .defrostRequest .ok [] [.defrostGranted] s t ∧ Posted .defrostGranted t ∧
      t.units.get z = { x with state := .pumpdown, deferral := ⟨false, 0⟩, phase := ⟨true, 0⟩ } ∧ UnitsKeptBut z s t ∧
      slotsInUse t = slotsInUse s + 1 ∧
      t = { s with units := t.units, alarms := (takeFrame .plant s).alarms, ports := t.ports }) ∧
    (e.kind ≠ .unused → x.state = .idle → ¬ passes → ∃ t, exec c s = .next t ∧
      Accepted .plant .defrostRequest .queued [] [] s t ∧
      t.units.get z = { x with state := .requested, urgent := decide (e.maxDeferral = 0), deferral := ⟨true, 0⟩ } ∧
      UnitsKeptBut z s t ∧
      t.defrostQueue = (if e.maxDeferral = 0 then
        s.defrostQueue.filter (isUrgent s) ++ z :: s.defrostQueue.filter (fun y => !isUrgent s y)
        else s.defrostQueue ++ [z]) ∧
      (e.maxDeferral = 0 → allowsOpen t z = false) ∧
      t = { s with units := t.units, defrostQueue := t.defrostQueue, alarms := (takeFrame .plant s).alarms, ports := t.ports })

/-- R137: the deferral expires: the request turns urgent, and is granted at once where only the reserve gate held it off. -/
def Obligations.DeferralExpiryTurnsUrgent : Prop :=
  ∀ (z : ZoneId) (s : State), s.power = .running → Settled s → DefrostInv s →
    let x := s.units.get z
    let limit := 60 * (zoneEntry s z).maxDeferral
    let raised := raise .defrostDeferred (.zone z) s
    let due := x.state = .requested ∧ x.urgent = false ∧ x.deferral.running = true
    let passes := slotsInUse s < s.profile.global.maxConcurrent ∧ openCount s z = 0 ∧ forcedCount s z = 0
    (¬ due → exec (.deferralExpiry z) s = .next s) ∧
    (due → ¬ passes → ∃ t, exec (.deferralExpiry z) s = .next t ∧
      t.units.get z = { x with urgent := true, deferred := true, deferral := ⟨true, max x.deferral.count limit⟩ } ∧
      UnitsKeptBut z s t ∧
      t.defrostQueue = s.defrostQueue.filter (isUrgent s) ++
        z :: s.defrostQueue.filter (fun y => y != z && !isUrgent s y) ∧
      allowsOpen t z = false ∧
      t.alarms = raised.alarms ∧ PortsKept s t ∧ OnlyNotices [.alarmChange] s t ∧
      t = { s with units := t.units, defrostQueue := t.defrostQueue, alarms := t.alarms, ports := t.ports }) ∧
    (due → passes → ∃ t, exec (.deferralExpiry z) s = .next t ∧
      t.units.get z = { x with state := .pumpdown, deferral := ⟨false, max x.deferral.count limit⟩, phase := ⟨true, 0⟩ } ∧
      UnitsKeptBut z s t ∧ t.defrostQueue = s.defrostQueue.filter (fun y => y != z) ∧
      t.alarms = (clear .defrostDeferred (.zone z) raised).alarms ∧ Posted .defrostGranted t ∧ PortsKept s t ∧
      OnlyNotices [.alarmChange, .defrostGranted] s t ∧
      t = { s with units := t.units, defrostQueue := t.defrostQueue, alarms := t.alarms, ports := t.ports })

/-- R142, R143, R16: PUMPDOWN DONE takes the unit to HEAT, where the bypass begins, and on to DRIP where the coil is already warm; the pumpdown
timeout returns it to IDLE. `u` is the state before the queue service and the grant judgment. (The count at which the stopped phase timer
stays is the model's reading: notes/assumptions/8.md.) -/
def Obligations.PumpdownEnds : Prop :=
  ∀ (z : ZoneId) (s : State), s.power = .running →
    let x := s.units.get z
    let coil := (s.zones.get z).coil
    let warm := coil.state ≠ .fault ∧ ∃ v, coil.filtered = some v ∧ ((zoneEntry s z).termination : Int) ≤ v
    (Ready .plant s → ∀ n, n = 0 ∨ 8 < n → Refuses .plant .pumpdownDone .param (.pumpdownDone .plant n) s) ∧
    (Ready .plant s → x.state ≠ .pumpdown → Refuses .plant .pumpdownDone .state (.pumpdownDone .plant (z.val + 1)) s) ∧
    (Ready .plant s → x.state = .pumpdown → ∃ u, exec (.pumpdownDone .plant (z.val + 1)) s = .next (respond .plant 0x21 ⟨.ok, []⟩ (settle u)) ∧
      (¬ warm → u.units.get z = { x with state := .heat, heatPermit := true, phase := ⟨true, 0⟩ }) ∧
      (warm → u.units.get z = { x with
        state := .drip, heatPermit := false, lastCause := some .temperature, lastStamp := some s.clock, phase := ⟨true, 0⟩ }) ∧
      UnitsKeptBut z s u ∧ Posted .defrostPhase u ∧ (∀ y, y ≠ z → u.zones.get y = s.zones.get y) ∧
      ((zoneEntry s z).kind ≠ .unused → u.zones.get z = ruledZone (zoneEntry s z) true (s.zones.get z)) ∧
      ((zoneEntry s z).kind = .unused → u.zones.get z = s.zones.get z) ∧ ToldOfExits z (s.zones.get z) (u.zones.get z) u ∧
      u = { s with zones := u.zones, units := u.units, alarms := u.alarms, ports := u.ports }) ∧
    (x.state ≠ .pumpdown ∨ x.phase.running = false → Settled s → exec (.pumpdownTimeout z) s = .next s) ∧
    (x.state = .pumpdown → x.phase.running = true → ∃ u, exec (.pumpdownTimeout z) s = .next (settle u) ∧
      u.units.get z = { x with
        state := .idle, lastCause := some .aborted, lastStamp := some s.clock,
        phase := ⟨false, max x.phase.count (zoneEntry s z).pumpdownTimeout⟩ } ∧
      UnitsKeptBut z s u ∧ slotsInUse u + 1 = slotsInUse s ∧ u.alarms = (raise .pumpdownTimeout (.zone z) s).alarms ∧
      Posted .defrostPhase u ∧ PortsKept s u ∧ OnlyNotices [.defrostPhase, .alarmChange] s u ∧
      u = { s with units := u.units, alarms := u.alarms, ports := u.ports })

/-- R144: HEAT passes to DRIP at a warm coil, at HEAT END and at the max heat. -/
def Obligations.HeatEndsAtItsFirstCause : Prop :=
  ∀ (z : ZoneId) (s : State), s.power = .running → Settled s →
    let x := s.units.get z
    let e := zoneEntry s z
    let coil := (s.zones.get z).coil
    let blind := coil.state = .fault ∨ coil.filtered = none
    let dripping := fun cause => { x with
      state := UnitState.drip, heatPermit := false, lastCause := some cause, lastStamp := some s.clock, phase := ⟨true, 0⟩ }
    (Ready .plant s → ∀ n, n = 0 ∨ 8 < n → Refuses .plant .heatEnd .param (.heatEnd .plant n) s) ∧
    (Ready .plant s → x.state ≠ .heat → Refuses .plant .heatEnd .state (.heatEnd .plant (z.val + 1)) s) ∧
    (Ready .plant s → x.state = .heat → ∃ t, exec (.heatEnd .plant (z.val + 1)) s = .next t ∧
      Accepted .plant .heatEnd .ok [] [.defrostPhase] s t ∧ Posted .defrostPhase t ∧
      t.units.get z = dripping .plant ∧ UnitsKeptBut z s t ∧
      t = { s with units := t.units, alarms := (takeFrame .plant s).alarms, ports := t.ports }) ∧
    (x.state ≠ .heat ∨ x.phase.running = false → exec (.heatTimeExpiry z) s = .next s) ∧
    (x.state = .heat → x.phase.running = true → ∃ t, exec (.heatTimeExpiry z) s = .next t ∧
      t.units.get z = dripping .time ∧ UnitsKeptBut z s t ∧ Posted .defrostPhase t ∧
      (blind → t.alarms = s.alarms) ∧ (¬ blind → t.alarms = (raise .heatOverrun (.zone z) s).alarms) ∧ PortsKept s t ∧
      OnlyNotices [.defrostPhase, .alarmChange] s t ∧ t = { s with units := t.units, alarms := t.alarms, ports := t.ports }) ∧
    (∀ code, x.state = .heat → s.converter.sweepBegun = true → e.kind ≠ .unused →
      let after := coil.take (classify s.converter.fault e.coilSpan e.coilOffset code)
      let warm := after.state ≠ .fault ∧ ∃ v, after.filtered = some v ∧ (e.termination : Int) ≤ v
      ∃ t, exec (.conversionComplete ⟨2 * z.val + 1, by omega⟩ code) s = .next t ∧ UnitsKeptBut z s t ∧
        (warm → t.units.get z = dripping .temperature ∧ Posted .defrostPhase t) ∧ (¬ warm → t.units.get z = x))

/-- R145, R146, R16: DRIP passes to RECOVER, and on to IDLE where the air is already cold; RECOVER ends by time with RECOVERY FAIL; with the
return to IDLE the bypass ends and the conditions are judged without it. (A recovery reached at an air sample is in
Obligations.ConditionsFollowTheAir.) `u` is the state before the queue service and the grant judgment. (The counts of the stopped phase
timer are the model's reading: notes/assumptions/8.md.) -/
def Obligations.DripAndRecoveryEnd : Prop :=
  ∀ (z : ZoneId) (s : State), s.power = .running →
    let x := s.units.get z
    let e := zoneEntry s z
    let air := (s.zones.get z).air
    let cold := air.state ≠ .fault ∧ ∃ v, air.filtered = some v ∧ v ≤ e.setpoint + e.recoveryBand
    let blind := air.state = .fault ∨ air.filtered = none
    let kept := fun (u : State) => UnitsKeptBut z s u ∧ Posted .defrostPhase u ∧ PortsKept s u ∧
      (∀ y, y ≠ z → u.zones.get y = s.zones.get y) ∧ ToldOfExits z (s.zones.get z) (u.zones.get z) u ∧
      u = { s with zones := u.zones, units := u.units, alarms := u.alarms, ports := u.ports }
    let unbypassed := fun (u : State) => (e.kind ≠ .unused → u.zones.get z = ruledZone e false (s.zones.get z)) ∧
      (e.kind = .unused → u.zones.get z = s.zones.get z)
    (x.state ≠ .drip ∨ x.phase.running = false → Settled s → exec (.dripExpiry z) s = .next s) ∧
    (x.state = .drip → x.phase.running = true → ∃ u, exec (.dripExpiry z) s = .next (settle u) ∧ kept u ∧
      slotsInUse u + 1 = slotsInUse s ∧
      (¬ cold → u.units.get z = { x with state := .recover, phase := ⟨true, 0⟩ } ∧ u.zones = s.zones ∧ u.alarms = s.alarms) ∧
      (cold → u.units.get z = { x with state := .idle, phase := ⟨false, 0⟩ } ∧ unbypassed u)) ∧
    (x.state ≠ .recover ∨ x.phase.running = false → Settled s → exec (.recoveryTimeExpiry z) s = .next s) ∧
    (x.state = .recover → x.phase.running = true → ∃ u, exec (.recoveryTimeExpiry z) s = .next (settle u) ∧ kept u ∧
      u.units.get z = { x with state := .idle, phase := ⟨false, max x.phase.count (60 * e.recoveryTime)⟩ } ∧ unbypassed u ∧
      (¬ blind → Recorded .recoveryFail (.zone z) u) ∧ (blind → u.alarms = s.alarms))

/-- R148, R16: DEFROST ABORT acts by the unit's state; an abort of RECOVER ends the bypass, and the conditions are judged without it. `u` is the state before the queue service and the grant judgment. (The count at which the
stopped phase timer stays is the model's reading: notes/assumptions/8.md.) -/
def Obligations.AbortActsByState : Prop :=
  ∀ (z : ZoneId) (s : State), Ready .plant s → DefrostInv s →
    let c := Instr.defrostAbort .plant (z.val + 1)
    let x := s.units.get z
    let ends := fun (x' : DefrostUnit) (P : State → Prop) => ∃ u,
      exec c s = .next (respond .plant 0x23 ⟨.ok, []⟩ (settle u)) ∧ u.units.get z = x' ∧ UnitsKeptBut z s u ∧ P u
    (∀ n, n = 0 ∨ 8 < n → Refuses .plant .defrostAbort .param (.defrostAbort .plant n) s) ∧
    match x.state with
    | .idle | .drip => Refuses .plant .defrostAbort .state c s
    | .requested => ends { x with state := .idle, urgent := false, deferral := x.deferral.stop, deferred := false } fun u =>
        u.defrostQueue = s.defrostQueue.filter (fun y => y != z) ∧
        (x.deferred = true → Cleared .defrostDeferred (.zone z) u) ∧
        (x.deferred = false → u.alarms = (takeFrame .plant s).alarms) ∧
        OnlyNotices [.alarmChange] (takeFrame .plant s) u ∧
        u = { s with units := u.units, defrostQueue := u.defrostQueue, alarms := u.alarms, ports := u.ports }
    | .pumpdown => ends { x with
          state := .idle, lastCause := some .aborted, lastStamp := some s.clock, phase := x.phase.stop } fun u =>
        Posted .defrostPhase u ∧
        u = { s with units := u.units, alarms := (takeFrame .plant s).alarms, ports := u.ports }
    | .heat => ends { x with
          state := .drip, heatPermit := false, lastCause := some .aborted, lastStamp := some s.clock, phase := ⟨true, 0⟩ } fun u =>
        Posted .defrostPhase u ∧
        u = { s with units := u.units, alarms := (takeFrame .plant s).alarms, ports := u.ports }
    | .recover => ends { x with state := .idle, phase := x.phase.stop } fun u =>
        Posted .defrostPhase u ∧
        -- the bypass ends, and the conditions are judged without it
        ((zoneEntry s z).kind ≠ .unused → u.zones.get z = ruledZone (zoneEntry s z) false (s.zones.get z)) ∧
        ((zoneEntry s z).kind = .unused → u.zones.get z = s.zones.get z) ∧
        ToldOfExits z (s.zones.get z) (u.zones.get z) u ∧
        AlarmsKeptBut (fun a sub => sub == .zone z && [.highWarn, .high, .low].any fun k => conditionAlarm k == a &&
          ((s.zones.get z).condition k).state == .active && ((u.zones.get z).condition k).state != .active) (takeFrame .plant s) u ∧
        OnlyNotices [.alarmChange, .zoneChange, .defrostPhase] (takeFrame .plant s) u ∧
        (∀ y, y ≠ z → u.zones.get y = s.zones.get y) ∧
        u = { s with zones := u.zones, units := u.units, alarms := u.alarms, ports := u.ports }

/-! ## Pallets, moves and manifests -/

/-- R49, R50, R51: ARRIVE and RESOLVE, their checks in order and what an accepted one makes. -/
def Obligations.PalletsArriveAndResolve : Prop :=
  ∀ (tag : Nat) (s : State), Ready .warehouse s →
    let vouched := fun (d : DoorId) => (doorState s d).hasTrailer = true ∧
      ∃ a, (s.doors.get d).assignment = some a ∧ a.direction = .inbound
    -- ARRIVE
    (∀ cls door n, tagOk tag = false ∨ 15 < cls ∨ door = 0 ∨ 24 < door →
      Refuses .warehouse .arrive .param (.arrive .warehouse tag cls door n) s) ∧
    (∀ (k : ClassId) (d : DoorId) (n : Nat), tagOk tag = true →
      let c := Instr.arrive .warehouse tag k.val (d.val + 1) n
      let e := classEntry s k
      let account := min 65535 n
      let status := if e.budget ≤ account then Status.over
        else if e.budget * e.warnPercent / 100 ≤ account then .warning else .normal
      (findPallet s tag ≠ none → Refuses .warehouse .arrive .duplicate c s) ∧
      (findPallet s tag = none → ¬ vouched d → Refuses .warehouse .arrive .state c s) ∧
      (findPallet s tag = none → vouched d → 512 ≤ s.pallets.length → Refuses .warehouse .arrive .full c s) ∧
      (findPallet s tag = none → vouched d → s.pallets.length < 512 → ∃ t, exec c s = .next t ∧
        Accepted .warehouse .arrive (if 65535 < n then .clamped else .ok) (u16 account ++ u8 status.code)
          [.palletStatus, .alarmChange] s t ∧
        findPallet t tag = some {
          tag := tag, cls := k, account := account, residue := 0, status := status, overridden := false, estimated := false,
          peak := none, dwell := 0, arrived := s.clock, location := .at (.trailer d), moves := 0,
          history := [(.at (.trailer d), s.clock)], charged := false } ∧
        PalletsKeptBut tag s t ∧ t.pallets.length = s.pallets.length + 1 ∧ aboard t d = aboard s d + 1 ∧
        (status ≠ .normal → Posted .palletStatus t) ∧ (status = .over → Stands .palletOver (.tag tag) t) ∧
        (status ≠ .over → t.alarms = (takeFrame .warehouse s).alarms) ∧
        (status = .normal → OnlyNotices [] (takeFrame .warehouse s) t) ∧
        t = { s with pallets := t.pallets, alarms := t.alarms, ports := t.ports })) ∧
    -- RESOLVE
    (∀ form index, tagOk tag = false ∨ place? form index = none →
      Refuses .warehouse .resolve .param (.resolve .warehouse tag form index) s) ∧
    (∀ form index w, tagOk tag = true → place? form index = some w →
      let c := Instr.resolve .warehouse tag form index
      let unused := match w with
        | .trailer _ => False
        | .lane l => (zoneEntry s (laneZone s l)).kind = .unused
        | .bulk z => (zoneEntry s z).kind = .unused
      let gone := match w with
        | .trailer d => ¬ vouched d
        | _ => False
      let full := match w with
        | .lane l => (laneEntry s l).capacity ≤ placesInUse s l
        | _ => False
      (unused → Refuses .warehouse .resolve .param c s) ∧
      (¬ unused → findPallet s tag = none → Refuses .warehouse .resolve .notFound c s) ∧
      ∀ p, ¬ unused → findPallet s tag = some p →
        (p.location ≠ .unresolved → Refuses .warehouse .resolve .state c s) ∧
        (p.location = .unresolved → gone → Refuses .warehouse .resolve .state c s) ∧
        (p.location = .unresolved → full → Refuses .warehouse .resolve .full c s) ∧
        (p.location = .unresolved → ¬ gone → ¬ full → ∃ t, exec c s = .next t ∧
          Accepted .warehouse .resolve .ok [] [] s t ∧
          findPallet t tag = some { p with location := .at w, history := pushEntry p.history (.at w, s.clock) } ∧
          PalletsKeptBut tag s t ∧
          (∀ l, t.lanes.get l = if w = .lane l then s.lanes.get l ++ [tag] else s.lanes.get l) ∧
          t = { s with pallets := t.pallets, lanes := t.lanes, alarms := (takeFrame .warehouse s).alarms, ports := t.ports }))

/-- R52 to R56, R35, R36, R108: DISPOSE OVERRIDE, DISPOSE REMOVE and PURGE, with what each record that leaves the table ends and posts. `u` is
the state before the grant judgment. A PURGE makes that judgment after each removal: a door still SEALED at its end was SEALED at each. -/
def Obligations.DisposeAndPurge : Prop :=
  ∀ (tag : Nat) (s : State), Ready .warehouse s →
    let override := Instr.disposeOverride .warehouse tag
    let remove := Instr.disposeRemove .warehouse tag
    (tagOk tag = false → Refuses .warehouse .dispose .param override s ∧ Refuses .warehouse .dispose .param remove s) ∧
    (tagOk tag = true → findPallet s tag = none →
      Refuses .warehouse .dispose .notFound override s ∧ Refuses .warehouse .dispose .notFound remove s) ∧
    (∀ p, tagOk tag = true → findPallet s tag = some p →
      (p.status ≠ .over → Refuses .warehouse .dispose .state override s) ∧
      (p.status = .over → ∃ t, exec override s = .next t ∧ Accepted .warehouse .dispose .ok [] [] s t ∧
        findPallet t tag = some { p with overridden := true } ∧ PalletsKeptBut tag s t ∧
        t = { s with pallets := t.pallets, alarms := (takeFrame .warehouse s).alarms, ports := t.ports }) ∧
      ((∃ m, p.location = .transit m) → Refuses .warehouse .dispose .state remove s) ∧
      ((∀ m, p.location ≠ .transit m) → ∃ u, exec remove s = .next (respond .warehouse 0x45 ⟨.ok, []⟩ (settle u)) ∧
        u.pallets = s.pallets.filter (fun q => q.tag != tag) ∧
        (∀ l, u.lanes.get l = if p.location = .at (.lane l) then (s.lanes.get l).filter (fun k => k != tag) else s.lanes.get l) ∧
        (p.status = .over → Cleared .palletOver (.tag tag) u) ∧
        (60 * (classEntry s p.cls).maxDwell < p.dwell → Cleared .dwellExceeded (.tag tag) u) ∧
        (∀ d, p.location = .at (.trailer d) → doorState s d = .sealed → (s.doors.get d).assignment ≠ none →
          aboard u d + manifestSize s d = 0 → Posted .releaseReady u) ∧
        OnlyNotices [.alarmChange, .releaseReady] (takeFrame .warehouse s) u ∧
        u = { s with pallets := u.pallets, lanes := u.lanes, alarms := u.alarms, ports := u.ports })) ∧
    ∀ ranges : List (Nat × Nat),
      let formed := 1 ≤ ranges.length ∧ ranges.length ≤ 8 ∧ ∀ r ∈ ranges, r.1 ≤ r.2
      let hit := fun (q : Pallet) => ranges.any fun r => r.1 ≤ q.tag && q.tag ≤ r.2
      let moving := fun (q : Pallet) => match q.location with
        | .transit _ => true
        | _ => false
      (¬ formed → Refuses .warehouse .purge .param (.purge .warehouse ranges) s) ∧
      (formed → TableInv s → LanesInv s → ∃ t, exec (.purge .warehouse ranges) s = .next t ∧
        Answered .warehouse .purge .ok (u16 (s.pallets.filter fun q => hit q && !moving q).length ++
          u16 (s.pallets.filter fun q => hit q && moving q).length) t ∧
        t.pallets = s.pallets.filter (fun q => !(hit q && !moving q)) ∧
        (∀ l, t.lanes.get l = (s.lanes.get l).filter fun k => t.pallets.any fun q => q.tag == k) ∧
        (∀ q ∈ s.pallets, hit q = true → moving q = false →
          (q.status = .over → Cleared .palletOver (.tag q.tag) t) ∧
          (60 * (classEntry s q.cls).maxDwell < q.dwell → Cleared .dwellExceeded (.tag q.tag) t)) ∧
        (∀ d, doorState t d = .sealed → (s.doors.get d).assignment ≠ none → aboard s d ≠ 0 → aboard t d + manifestSize s d = 0 →
          Posted .releaseReady t) ∧
        OnlyNotices [.alarmChange, .releaseReady, .openGranted, .doorChange, .defrostGranted] (takeFrame .warehouse s) t ∧
        t = { s with pallets := t.pallets, lanes := t.lanes, units := t.units, defrostQueue := t.defrostQueue, doors := t.doors,
                     waits := t.waits, loop := t.loop, alarms := t.alarms, ports := t.ports })

/-- R66 to R73, R37, R38: MOVE: the first failing check decides the refusal; a move that passes all is granted. `u` is the state before the
grant judgment. (That the answer's estimate takes 2 bytes, as an account and a duration do, is the model's reading of R188:
notes/assumptions/7.md.) -/
def Obligations.MoveIsCheckedInOrderThenGranted : Prop :=
  ∀ (tag form index : Nat) (route : List Nat) (asked : Nat) (s : State), Ready .warehouse s →
    let c := Instr.move .warehouse tag form index route asked
    (tagOk tag = false ∨ dest? form index = none ∨ route? route = none → Refuses .warehouse .move .param c s) ∧
    ∀ dest zs, tagOk tag = true → dest? form index = some dest → route? route = some zs →
      (findPallet s tag = none → Refuses .warehouse .move .notFound c s) ∧
      ∀ p, findPallet s tag = some p →
        ((∀ w, p.location ≠ .at w) → Refuses .warehouse .move .state c s) ∧
        ∀ origin temp, p.location = .at origin →
          (∃ z ∈ zs, (contribution s origin dest z).1 = temp) → (∀ z ∈ zs, (contribution s origin dest z).1 ≤ temp) →
          let e := classEntry s p.cls
          let duration := if asked = 0 then 1 else min 1800 asked
          let estimate := ((temp - e.threshold).toNat * duration + 59) / 60
          let refusal : Option Result :=
            if 32 ≤ transitCount s then some .full
            else if zs.head? ≠ some (placeZone s origin) ∨ zs.getLast? ≠ some (destZone s dest) ∨
              zs.any (fun z => (zoneEntry s z).kind == .unused) then some .param
            else match origin with
              | .trailer d => if doorState s d = .opened then none else some .state
              | .lane l => if (s.lanes.get l).head? = some tag then none else some .head
              | .bulk _ => none
          let refusal := refusal.or (match dest with
            | .lane l => if placesInUse s l < (laneEntry s l).capacity then none else some .full
            | .bulk _ => none
            | .door d =>
                if doorState s d ≠ .opened ∨ (s.doors.get d).assignment.map Assignment.direction ≠ some .outbound then some .state
                else if p.status = .over ∧ p.overridden = false then some .held
                else if 192 ≤ poolRecords s + loadReservations s then some .full else none)
          let toDoor := match dest with
            | .door _ => true
            | _ => false
          let refusal := refusal.or (if p.account + estimate ≤ e.budget ∨ accrualTemp s (destZone s dest) ≤ e.threshold ∨
            (toDoor = true ∧ p.overridden = true) then none else some .budget)
          (∀ r, refusal = some r → Refuses .warehouse .move r c s) ∧
          (refusal = none → ∃ u,
            exec c s = .next (respond .warehouse 0x41
              ⟨if duration = asked then .ok else .clamped, u16 estimate ++ u16 duration⟩ (settle u)) ∧
            findPallet u tag = some { p with location := .transit ⟨origin, dest, zs, duration, 0, false⟩ } ∧
            PalletsKeptBut tag s u ∧
            (∀ l, u.lanes.get l = if origin = .lane l then (s.lanes.get l).drop 1 else s.lanes.get l) ∧
            u = { takeFrame .warehouse s with pallets := u.pallets, lanes := u.lanes })

/-- R77 to R80, R157 to R159: MOVE DONE puts the pallet at its destination, closes it into the door's manifest, or leaves it UNRESOLVED. `u`
is the state before the grant judgment. -/
def Obligations.MoveDonePutsThePallet : Prop :=
  ∀ (tag : Nat) (s : State), Ready .warehouse s →
    let c := Instr.moveDone .warehouse tag
    (tagOk tag = false → Refuses .warehouse .moveDone .param c s) ∧
    (tagOk tag = true → findPallet s tag = none → Refuses .warehouse .moveDone .notFound c s) ∧
    ∀ p, tagOk tag = true → findPallet s tag = some p →
      ((∀ m, p.location ≠ .transit m) → Refuses .warehouse .moveDone .state c s) ∧
      ∀ m, p.location = .transit m →
        let moved := { p with moves := min 255 (p.moves + 1) }
        let ends := fun (payload : List Byte) (ks : List NoticeKind) (P : State → Prop) => ∃ u,
          exec c s = .next (respond .warehouse 0x42 ⟨.ok, payload⟩ (settle u)) ∧
          (m.overdue = true → Cleared .moveOverdue (.tag tag) u) ∧ PalletsKeptBut tag s u ∧
          OnlyNotices ks (takeFrame .warehouse s) u ∧ P u
        let lost := ends [5, 0] [.alarmChange, .unresolved] fun u =>
          findPallet u tag = some { moved with location := .unresolved, history := pushEntry p.history (.unresolved, s.clock) } ∧
          Posted .unresolved u ∧ (m.overdue = false → u.alarms = (takeFrame .warehouse s).alarms) ∧
          u = { s with pallets := u.pallets, alarms := u.alarms, ports := u.ports }
        let put := fun (w : Place) (u : State) =>
          findPallet u tag = some { moved with location := .at w, history := pushEntry p.history (.at w, s.clock) } ∧
          (m.overdue = false → u.alarms = (takeFrame .warehouse s).alarms) ∧
          u = { s with pallets := u.pallets, lanes := u.lanes, alarms := u.alarms, ports := u.ports }
        match m.dest with
        | .lane l => ends [2, BitVec.ofNat 8 (l.val + 1)] [.alarmChange] fun u => put (.lane l) u ∧
            u.lanes.get l = s.lanes.get l ++ [tag] ∧ LanesKeptBut l s u
        | .bulk z =>
            ((zoneEntry s z).kind ≠ .unused → ends [3, BitVec.ofNat 8 (z.val + 1)] [.alarmChange] fun u =>
              put (.bulk z) u ∧ u.lanes = s.lanes) ∧
            ((zoneEntry s z).kind = .unused → lost)
        | .door d =>
            ((doorState s d).hasTrailer = false ∨ (s.doors.get d).assignment.map Assignment.direction ≠ some .outbound → lost) ∧
            ∀ a, (doorState s d).hasTrailer = true → (s.doors.get d).assignment = some a → a.direction = .outbound →
              ∃ u, exec c s = .next (respond .warehouse 0x42 ⟨.ok, [6, BitVec.ofNat 8 (d.val + 1)]⟩ (settle u)) ∧
                u.pallets = s.pallets.filter (fun q => q.tag != tag) ∧
                u.manifests.get d = s.manifests.get d ++ [{
                  tag := p.tag, cls := p.cls, account := p.account, peak := p.peak,
                  verdict := if p.overridden then .overridden else match p.status with
                    | .normal => .normal
                    | .warning => .warning
                    | .over => .over
                  estimated := p.estimated, arrived := p.arrived, departed := s.clock, trailer := a.trailer,
                  moves := moved.moves, history := pushEntry p.history (.at (.trailer d), s.clock) }] ∧
                (∀ e, e ≠ d → u.manifests.get e = s.manifests.get e) ∧
                (s.manifests.get d = [] → Posted .manifestReady u) ∧
                (m.overdue = true → Cleared .moveOverdue (.tag tag) u) ∧
                (p.status = .over → Cleared .palletOver (.tag tag) u) ∧
                (60 * (classEntry s p.cls).maxDwell < p.dwell → Cleared .dwellExceeded (.tag tag) u) ∧
                OnlyNotices [.alarmChange, .manifestReady] (takeFrame .warehouse s) u ∧
                u = { s with pallets := u.pallets, manifests := u.manifests, alarms := u.alarms, ports := u.ports }

/-- R76, R82, R83, R84: the overdue limit is reached; MOVE CANCEL puts the pallet back where it stood, or leaves it UNRESOLVED. `u` is the
state before the grant judgment. -/
def Obligations.TransitOverdueAndCancel : Prop :=
  ∀ (tag : Nat) (s : State), s.power = .running →
    let c := Instr.moveCancel .warehouse tag
    (Ready .warehouse s → tagOk tag = false → Refuses .warehouse .moveCancel .param c s) ∧
    (findPallet s tag = none → exec (.moveOverdueExpiry tag) s = .next s ∧
      (Ready .warehouse s → tagOk tag = true → Refuses .warehouse .moveCancel .notFound c s)) ∧
    ∀ p, tagOk tag = true → findPallet s tag = some p →
      ((∀ m, p.location ≠ .transit m) →
        (Ready .warehouse s → Refuses .warehouse .moveCancel .state c s) ∧ exec (.moveOverdueExpiry tag) s = .next s) ∧
      ∀ m, p.location = .transit m →
        -- MOVE_OVERDUE_EXPIRY
        (m.overdue = true → exec (.moveOverdueExpiry tag) s = .next s) ∧
        (m.overdue = false → ∃ t, exec (.moveOverdueExpiry tag) s = .next t ∧
          findPallet t tag = some { p with
            location := .transit { m with overdue := true, timer := max m.timer (2 * m.duration + 60) } } ∧
          PalletsKeptBut tag s t ∧ t.alarms = (raise .moveOverdue (.tag tag) s).alarms ∧ Posted .moveOverdue t ∧
          PortsKept s t ∧ OnlyNotices [.moveOverdue, .alarmChange] s t ∧
          t = { s with pallets := t.pallets, alarms := t.alarms, ports := t.ports }) ∧
        -- MOVE CANCEL
        (Ready .warehouse s →
         let ends := fun (payload : List Byte) (ks : List NoticeKind) (P : State → Prop) => ∃ u,
           exec c s = .next (respond .warehouse 0x43 ⟨.ok, payload⟩ (settle u)) ∧
           (m.overdue = true → Cleared .moveOverdue (.tag tag) u) ∧
           (m.overdue = false → u.alarms = (takeFrame .warehouse s).alarms) ∧ PalletsKeptBut tag s u ∧
           OnlyNotices ks (takeFrame .warehouse s) u ∧
           u = { s with pallets := u.pallets, lanes := u.lanes, alarms := u.alarms, ports := u.ports } ∧ P u
         let back := fun (u : State) => findPallet u tag = some { p with location := .at m.origin }
         let lost := ends [5, 0] [.alarmChange, .unresolved] fun u => u.lanes = s.lanes ∧ Posted .unresolved u ∧
           findPallet u tag = some { p with location := .unresolved, history := pushEntry p.history (.unresolved, s.clock) }
         match m.origin with
         | .lane l => ends [2, BitVec.ofNat 8 (l.val + 1)] [.alarmChange] fun u =>
             back u ∧ u.lanes.get l = tag :: s.lanes.get l ∧ LanesKeptBut l s u
         | .bulk z =>
             ((zoneEntry s z).kind ≠ .unused → ends [3, BitVec.ofNat 8 (z.val + 1)] [.alarmChange] fun u =>
               back u ∧ u.lanes = s.lanes) ∧
             ((zoneEntry s z).kind = .unused → lost)
         | .trailer d =>
             let vouched := (doorState s d).hasTrailer = true ∧
               (s.doors.get d).assignment.map Assignment.direction = some .inbound
             (vouched → ends [1, BitVec.ofNat 8 (d.val + 1)] [.alarmChange] fun u => back u ∧ u.lanes = s.lanes) ∧
             (¬ vouched → lost))

/-- R161, R162, R163: MANIFEST TAKE reads at most three records up to the first flagged one; MANIFEST ACCEPT removes records from the head. -/
def Obligations.ManifestTakeAndAccept : Prop :=
  ∀ (d : DoorId) (s : State), Ready .warehouse s →
    let m := s.manifests.get d
    let x := s.doors.get d
    let flagged := fun (r : Departure) => r.verdict = .over ∨ r.verdict = .overridden ∨ r.estimated = true
    let accept := fun (n confirm : Nat) => Instr.manifestAccept .warehouse (d.val + 1) n confirm
    (∀ n, n = 0 ∨ 24 < n → Refuses .warehouse .manifestTake .param (.manifestTake .warehouse n) s) ∧
    (∃ t rs rest, exec (.manifestTake .warehouse (d.val + 1)) s = .next t ∧ m = rs ++ rest ∧ rs.length ≤ 3 ∧
      (∀ r ∈ rs.dropLast, ¬ flagged r) ∧
      (rs.length = 3 ∨ rest = [] ∨ ∃ r, rs.getLast? = some r ∧ flagged r) ∧
      (∀ res, (res = .stopped ↔ ∃ r ∈ rs, flagged r) → res = .stopped ∨ res = .ok →
        Accepted .warehouse .manifestTake res (u8 (d.val + 1) ++ u8 m.length ++ u8 (poolRecords s) ++ u8 (loadReservations s) ++
          u8 rs.length ++ rs.flatMap fun r => ruledDepartureBytes (decide (flagged r)) r) [] s t) ∧
      t = { s with alarms := (takeFrame .warehouse s).alarms, ports := t.ports }) ∧
    (∀ k, k = 0 ∨ 24 < k → ∀ n confirm,
      Refuses .warehouse .manifestAccept .param (.manifestAccept .warehouse k n confirm) s) ∧
    (∀ n confirm, n = 0 ∨ 3 < n ∨ 1 < confirm ∨ m.length < n →
      Refuses .warehouse .manifestAccept .param (accept n confirm) s) ∧
    (∀ n, 1 ≤ n → n ≤ 3 → n ≤ m.length → (∃ r ∈ m.take n, flagged r) →
      Refuses .warehouse .manifestAccept .pending (accept n 0) s) ∧
    (∀ n confirm, 1 ≤ n → n ≤ 3 → n ≤ m.length → confirm = 1 ∨ (confirm = 0 ∧ ∀ r ∈ m.take n, ¬ flagged r) →
      ∃ t, exec (accept n confirm) s = .next t ∧
        Accepted .warehouse .manifestAccept .ok (u16 (m.length - n)) [.releaseReady] s t ∧
        t.manifests.get d = m.drop n ∧ poolRecords t + n = poolRecords s ∧ (∀ e, e ≠ d → t.manifests.get e = s.manifests.get e) ∧
        (m.length = n → x.state = .sealed → x.assignment ≠ none → aboard s d = 0 → Posted .releaseReady t) ∧
        (n < m.length ∨ x.state ≠ .sealed ∨ x.assignment = none ∨ aboard s d ≠ 0 → OnlyNotices [] (takeFrame .warehouse s) t) ∧
        t = { s with manifests := t.manifests, alarms := (takeFrame .warehouse s).alarms, ports := t.ports })

/-! ## The queue service, the grant judgment, and what every step keeps -/

/-- R113, R140, R141: after an event the wait queues are served from their heads and the defrost queue is granted in its order, until nothing
that may be served or granted waits. -/
def Obligations.SettleServesAndGrants : Prop :=
  ∀ s : State, DefrostInv s → WaitsInv s →
    let t := settle s
    Settled t ∧ OnlyDocks s t ∧ PortsKept s t ∧
    OnlyNotices [.openGranted, .doorChange, .alarmChange, .defrostGranted] s t ∧
    (∀ z, ∃ served, s.waits.get z = served ++ t.waits.get z ∧
      (∀ d ∈ served, doorState t d = .opened ∧ (t.doors.get d).openedAt = some s.clock ∧
        (t.doors.get d).openTimer = ⟨true, 0⟩ ∧ (t.doors.get d).forced = false ∧ (t.loop.stations.get d).permit = true ∧
        Posted .openGranted t ∧ Posted .doorChange t) ∧
      openCount t z = openCount s z + served.length ∧ (served ≠ [] → openCount t z ≤ limitInForce t z)) ∧
    (∀ d, d ∉ s.waits.get (doorZone s d) → t.doors.get d = s.doors.get d ∧ t.loop.stations.get d = s.loop.stations.get d) ∧
    t.defrostQueue.Sublist s.defrostQueue ∧
    (∀ z, z ∉ s.defrostQueue ∨ z ∈ t.defrostQueue → t.units.get z = s.units.get z) ∧
    (∀ z, z ∈ s.defrostQueue → z ∉ t.defrostQueue → Posted .defrostGranted t ∧ openCount t z = 0 ∧ forcedCount t z = 0 ∧
      t.units.get z = { s.units.get z with
        state := .pumpdown, urgent := false, deferral := (s.units.get z).deferral.stop, phase := ⟨true, 0⟩, deferred := false }) ∧
    (∀ before y after z, s.defrostQueue = before ++ y :: after → z ∈ after → y ∈ t.defrostQueue → z ∉ t.defrostQueue →
      gateDoors t y = false ∨ gateReserve t y = false) ∧
    slotsInUse t ≤ max (slotsInUse s) s.profile.global.maxConcurrent

/-- R167: no step gives the Alarm List more than 48 entries, two entries for one kind and subject, or a raise count outside 1 … 255. -/
def Obligations.EveryStepKeepsTheAlarmList : Prop :=
  ∀ s t : State, AlarmsInv s → step s = .next t → AlarmsInv t

/-- R125: at every step a door's permit stands in the permit set exactly while the door is OPEN. -/
def Obligations.EveryStepKeepsThePermits : Prop :=
  ∀ s t : State, PermitInv s → step s = .next t → PermitInv t

/-- R133, R134, R135, R143: every step keeps the heat permits with HEAT, the defrost queue with REQUESTED, and the slots in use within the
setting. -/
def Obligations.EveryStepKeepsTheDefrostUnits : Prop :=
  ∀ s t : State, DefrostInv s → SlotsInv s → step s = .next t → DefrostInv t ∧ SlotsInv t

/-- R112, R114: every step keeps the wait queues to SEALED doors of their zone, and no door OPEN or CLOSING in a zone whose unit is in
PUMPDOWN, HEAT or DRIP. -/
def Obligations.EveryStepKeepsDoorsShutInDefrost : Prop :=
  ∀ s t : State, WaitsInv s → ShutInDefrost s → step s = .next t → WaitsInv t ∧ ShutInDefrost t

/-- R44, R62, R63, R67, R155: every step keeps the Pallet Table, the transit records, the lanes and the departure pool within their bounds,
each lane's queue the pallets located in it. (The table keeps no order by R44; that the model's list of it rises by tag, which TableInv asks
so that no tag stands twice, is the model's choice: notes/assumptions/23.md.) -/
def Obligations.EveryStepKeepsTheTableAndLanes : Prop :=
  ∀ s t : State, TableInv s → LanesInv s → step s = .next t → TableInv t ∧ LanesInv t

/-- R113, R140: after every step no waiting door may be opened and no queued zone passes its gates, where that was so before. -/
def Obligations.EveryStepLeavesNothingToServe : Prop :=
  ∀ s t : State, TableInv s → Settled s → QueueInv s → step s = .next t → Settled t ∧ QueueInv t

/-- The state right after reset meets every invariant. -/
def Obligations.ResetMeetsEveryInvariant : Prop :=
  let s := State.reset
  AlarmsInv s ∧ PermitInv s ∧ DefrostInv s ∧ SlotsInv s ∧ WaitsInv s ∧ ShutInDefrost s ∧ TableInv s ∧ LanesInv s ∧ Settled s ∧
  QueueInv s
end

