-- ==== Sys2Proof/Laws/State.lean ====
section
/-! SUPPORT. What each update of State does to each field, by rfl: a proof reads a field through these and unfolds no record update. -/

namespace Sys2Proof.Machine

@[simp] theorem setConverter_pending (s : State) (x : Converter) : (s.setConverter x).pending = s.pending := rfl
@[simp] theorem setConverter_power (s : State) (x : Converter) : (s.setConverter x).power = s.power := rfl
@[simp] theorem setConverter_marker (s : State) (x : Converter) : (s.setConverter x).marker = s.marker := rfl
@[simp] theorem setConverter_clock (s : State) (x : Converter) : (s.setConverter x).clock = s.clock := rfl
@[simp] theorem setConverter_clockValid (s : State) (x : Converter) : (s.setConverter x).clockValid = s.clockValid := rfl
@[simp] theorem setConverter_report (s : State) (x : Converter) : (s.setConverter x).report = s.report := rfl
@[simp] theorem setConverter_converter (s : State) (x : Converter) : (s.setConverter x).converter = x := rfl
@[simp] theorem setConverter_zones (s : State) (x : Converter) : (s.setConverter x).zones = s.zones := rfl
@[simp] theorem setConverter_exposure (s : State) (x : Converter) : (s.setConverter x).exposure = s.exposure := rfl
@[simp] theorem setConverter_pallets (s : State) (x : Converter) : (s.setConverter x).pallets = s.pallets := rfl
@[simp] theorem setConverter_lanes (s : State) (x : Converter) : (s.setConverter x).lanes = s.lanes := rfl
@[simp] theorem setConverter_doors (s : State) (x : Converter) : (s.setConverter x).doors = s.doors := rfl
@[simp] theorem setConverter_waits (s : State) (x : Converter) : (s.setConverter x).waits = s.waits := rfl
@[simp] theorem setConverter_loop (s : State) (x : Converter) : (s.setConverter x).loop = s.loop := rfl
@[simp] theorem setConverter_units (s : State) (x : Converter) : (s.setConverter x).units = s.units := rfl
@[simp] theorem setConverter_defrostQueue (s : State) (x : Converter) : (s.setConverter x).defrostQueue = s.defrostQueue := rfl
@[simp] theorem setConverter_manifests (s : State) (x : Converter) : (s.setConverter x).manifests = s.manifests := rfl
@[simp] theorem setConverter_alarms (s : State) (x : Converter) : (s.setConverter x).alarms = s.alarms := rfl
@[simp] theorem setConverter_ports (s : State) (x : Converter) : (s.setConverter x).ports = s.ports := rfl
@[simp] theorem setConverter_profile (s : State) (x : Converter) : (s.setConverter x).profile = s.profile := rfl
@[simp] theorem setConverter_store (s : State) (x : Converter) : (s.setConverter x).store = s.store := rfl

@[simp] theorem setZones_pending (s : State) (x : Bank ZoneRecord 8) : (s.setZones x).pending = s.pending := rfl
@[simp] theorem setZones_power (s : State) (x : Bank ZoneRecord 8) : (s.setZones x).power = s.power := rfl
@[simp] theorem setZones_marker (s : State) (x : Bank ZoneRecord 8) : (s.setZones x).marker = s.marker := rfl
@[simp] theorem setZones_clock (s : State) (x : Bank ZoneRecord 8) : (s.setZones x).clock = s.clock := rfl
@[simp] theorem setZones_clockValid (s : State) (x : Bank ZoneRecord 8) : (s.setZones x).clockValid = s.clockValid := rfl
@[simp] theorem setZones_report (s : State) (x : Bank ZoneRecord 8) : (s.setZones x).report = s.report := rfl
@[simp] theorem setZones_converter (s : State) (x : Bank ZoneRecord 8) : (s.setZones x).converter = s.converter := rfl
@[simp] theorem setZones_zones (s : State) (x : Bank ZoneRecord 8) : (s.setZones x).zones = x := rfl
@[simp] theorem setZones_exposure (s : State) (x : Bank ZoneRecord 8) : (s.setZones x).exposure = s.exposure := rfl
@[simp] theorem setZones_pallets (s : State) (x : Bank ZoneRecord 8) : (s.setZones x).pallets = s.pallets := rfl
@[simp] theorem setZones_lanes (s : State) (x : Bank ZoneRecord 8) : (s.setZones x).lanes = s.lanes := rfl
@[simp] theorem setZones_doors (s : State) (x : Bank ZoneRecord 8) : (s.setZones x).doors = s.doors := rfl
@[simp] theorem setZones_waits (s : State) (x : Bank ZoneRecord 8) : (s.setZones x).waits = s.waits := rfl
@[simp] theorem setZones_loop (s : State) (x : Bank ZoneRecord 8) : (s.setZones x).loop = s.loop := rfl
@[simp] theorem setZones_units (s : State) (x : Bank ZoneRecord 8) : (s.setZones x).units = s.units := rfl
@[simp] theorem setZones_defrostQueue (s : State) (x : Bank ZoneRecord 8) : (s.setZones x).defrostQueue = s.defrostQueue := rfl
@[simp] theorem setZones_manifests (s : State) (x : Bank ZoneRecord 8) : (s.setZones x).manifests = s.manifests := rfl
@[simp] theorem setZones_alarms (s : State) (x : Bank ZoneRecord 8) : (s.setZones x).alarms = s.alarms := rfl
@[simp] theorem setZones_ports (s : State) (x : Bank ZoneRecord 8) : (s.setZones x).ports = s.ports := rfl
@[simp] theorem setZones_profile (s : State) (x : Bank ZoneRecord 8) : (s.setZones x).profile = s.profile := rfl
@[simp] theorem setZones_store (s : State) (x : Bank ZoneRecord 8) : (s.setZones x).store = s.store := rfl

@[simp] theorem setExposure_pending (s : State) (x : Exposure) : (s.setExposure x).pending = s.pending := rfl
@[simp] theorem setExposure_power (s : State) (x : Exposure) : (s.setExposure x).power = s.power := rfl
@[simp] theorem setExposure_marker (s : State) (x : Exposure) : (s.setExposure x).marker = s.marker := rfl
@[simp] theorem setExposure_clock (s : State) (x : Exposure) : (s.setExposure x).clock = s.clock := rfl
@[simp] theorem setExposure_clockValid (s : State) (x : Exposure) : (s.setExposure x).clockValid = s.clockValid := rfl
@[simp] theorem setExposure_report (s : State) (x : Exposure) : (s.setExposure x).report = s.report := rfl
@[simp] theorem setExposure_converter (s : State) (x : Exposure) : (s.setExposure x).converter = s.converter := rfl
@[simp] theorem setExposure_zones (s : State) (x : Exposure) : (s.setExposure x).zones = s.zones := rfl
@[simp] theorem setExposure_exposure (s : State) (x : Exposure) : (s.setExposure x).exposure = x := rfl
@[simp] theorem setExposure_pallets (s : State) (x : Exposure) : (s.setExposure x).pallets = s.pallets := rfl
@[simp] theorem setExposure_lanes (s : State) (x : Exposure) : (s.setExposure x).lanes = s.lanes := rfl
@[simp] theorem setExposure_doors (s : State) (x : Exposure) : (s.setExposure x).doors = s.doors := rfl
@[simp] theorem setExposure_waits (s : State) (x : Exposure) : (s.setExposure x).waits = s.waits := rfl
@[simp] theorem setExposure_loop (s : State) (x : Exposure) : (s.setExposure x).loop = s.loop := rfl
@[simp] theorem setExposure_units (s : State) (x : Exposure) : (s.setExposure x).units = s.units := rfl
@[simp] theorem setExposure_defrostQueue (s : State) (x : Exposure) : (s.setExposure x).defrostQueue = s.defrostQueue := rfl
@[simp] theorem setExposure_manifests (s : State) (x : Exposure) : (s.setExposure x).manifests = s.manifests := rfl
@[simp] theorem setExposure_alarms (s : State) (x : Exposure) : (s.setExposure x).alarms = s.alarms := rfl
@[simp] theorem setExposure_ports (s : State) (x : Exposure) : (s.setExposure x).ports = s.ports := rfl
@[simp] theorem setExposure_profile (s : State) (x : Exposure) : (s.setExposure x).profile = s.profile := rfl
@[simp] theorem setExposure_store (s : State) (x : Exposure) : (s.setExposure x).store = s.store := rfl

@[simp] theorem setPallets_pending (s : State) (x : List Pallet) : (s.setPallets x).pending = s.pending := rfl
@[simp] theorem setPallets_power (s : State) (x : List Pallet) : (s.setPallets x).power = s.power := rfl
@[simp] theorem setPallets_marker (s : State) (x : List Pallet) : (s.setPallets x).marker = s.marker := rfl
@[simp] theorem setPallets_clock (s : State) (x : List Pallet) : (s.setPallets x).clock = s.clock := rfl
@[simp] theorem setPallets_clockValid (s : State) (x : List Pallet) : (s.setPallets x).clockValid = s.clockValid := rfl
@[simp] theorem setPallets_report (s : State) (x : List Pallet) : (s.setPallets x).report = s.report := rfl
@[simp] theorem setPallets_converter (s : State) (x : List Pallet) : (s.setPallets x).converter = s.converter := rfl
@[simp] theorem setPallets_zones (s : State) (x : List Pallet) : (s.setPallets x).zones = s.zones := rfl
@[simp] theorem setPallets_exposure (s : State) (x : List Pallet) : (s.setPallets x).exposure = s.exposure := rfl
@[simp] theorem setPallets_pallets (s : State) (x : List Pallet) : (s.setPallets x).pallets = x := rfl
@[simp] theorem setPallets_lanes (s : State) (x : List Pallet) : (s.setPallets x).lanes = s.lanes := rfl
@[simp] theorem setPallets_doors (s : State) (x : List Pallet) : (s.setPallets x).doors = s.doors := rfl
@[simp] theorem setPallets_waits (s : State) (x : List Pallet) : (s.setPallets x).waits = s.waits := rfl
@[simp] theorem setPallets_loop (s : State) (x : List Pallet) : (s.setPallets x).loop = s.loop := rfl
@[simp] theorem setPallets_units (s : State) (x : List Pallet) : (s.setPallets x).units = s.units := rfl
@[simp] theorem setPallets_defrostQueue (s : State) (x : List Pallet) : (s.setPallets x).defrostQueue = s.defrostQueue := rfl
@[simp] theorem setPallets_manifests (s : State) (x : List Pallet) : (s.setPallets x).manifests = s.manifests := rfl
@[simp] theorem setPallets_alarms (s : State) (x : List Pallet) : (s.setPallets x).alarms = s.alarms := rfl
@[simp] theorem setPallets_ports (s : State) (x : List Pallet) : (s.setPallets x).ports = s.ports := rfl
@[simp] theorem setPallets_profile (s : State) (x : List Pallet) : (s.setPallets x).profile = s.profile := rfl
@[simp] theorem setPallets_store (s : State) (x : List Pallet) : (s.setPallets x).store = s.store := rfl

@[simp] theorem setLanes_pending (s : State) (x : Bank (List Nat) 32) : (s.setLanes x).pending = s.pending := rfl
@[simp] theorem setLanes_power (s : State) (x : Bank (List Nat) 32) : (s.setLanes x).power = s.power := rfl
@[simp] theorem setLanes_marker (s : State) (x : Bank (List Nat) 32) : (s.setLanes x).marker = s.marker := rfl
@[simp] theorem setLanes_clock (s : State) (x : Bank (List Nat) 32) : (s.setLanes x).clock = s.clock := rfl
@[simp] theorem setLanes_clockValid (s : State) (x : Bank (List Nat) 32) : (s.setLanes x).clockValid = s.clockValid := rfl
@[simp] theorem setLanes_report (s : State) (x : Bank (List Nat) 32) : (s.setLanes x).report = s.report := rfl
@[simp] theorem setLanes_converter (s : State) (x : Bank (List Nat) 32) : (s.setLanes x).converter = s.converter := rfl
@[simp] theorem setLanes_zones (s : State) (x : Bank (List Nat) 32) : (s.setLanes x).zones = s.zones := rfl
@[simp] theorem setLanes_exposure (s : State) (x : Bank (List Nat) 32) : (s.setLanes x).exposure = s.exposure := rfl
@[simp] theorem setLanes_pallets (s : State) (x : Bank (List Nat) 32) : (s.setLanes x).pallets = s.pallets := rfl
@[simp] theorem setLanes_lanes (s : State) (x : Bank (List Nat) 32) : (s.setLanes x).lanes = x := rfl
@[simp] theorem setLanes_doors (s : State) (x : Bank (List Nat) 32) : (s.setLanes x).doors = s.doors := rfl
@[simp] theorem setLanes_waits (s : State) (x : Bank (List Nat) 32) : (s.setLanes x).waits = s.waits := rfl
@[simp] theorem setLanes_loop (s : State) (x : Bank (List Nat) 32) : (s.setLanes x).loop = s.loop := rfl
@[simp] theorem setLanes_units (s : State) (x : Bank (List Nat) 32) : (s.setLanes x).units = s.units := rfl
@[simp] theorem setLanes_defrostQueue (s : State) (x : Bank (List Nat) 32) : (s.setLanes x).defrostQueue = s.defrostQueue := rfl
@[simp] theorem setLanes_manifests (s : State) (x : Bank (List Nat) 32) : (s.setLanes x).manifests = s.manifests := rfl
@[simp] theorem setLanes_alarms (s : State) (x : Bank (List Nat) 32) : (s.setLanes x).alarms = s.alarms := rfl
@[simp] theorem setLanes_ports (s : State) (x : Bank (List Nat) 32) : (s.setLanes x).ports = s.ports := rfl
@[simp] theorem setLanes_profile (s : State) (x : Bank (List Nat) 32) : (s.setLanes x).profile = s.profile := rfl
@[simp] theorem setLanes_store (s : State) (x : Bank (List Nat) 32) : (s.setLanes x).store = s.store := rfl

@[simp] theorem setDoors_pending (s : State) (x : Bank DoorRecord 24) : (s.setDoors x).pending = s.pending := rfl
@[simp] theorem setDoors_power (s : State) (x : Bank DoorRecord 24) : (s.setDoors x).power = s.power := rfl
@[simp] theorem setDoors_marker (s : State) (x : Bank DoorRecord 24) : (s.setDoors x).marker = s.marker := rfl
@[simp] theorem setDoors_clock (s : State) (x : Bank DoorRecord 24) : (s.setDoors x).clock = s.clock := rfl
@[simp] theorem setDoors_clockValid (s : State) (x : Bank DoorRecord 24) : (s.setDoors x).clockValid = s.clockValid := rfl
@[simp] theorem setDoors_report (s : State) (x : Bank DoorRecord 24) : (s.setDoors x).report = s.report := rfl
@[simp] theorem setDoors_converter (s : State) (x : Bank DoorRecord 24) : (s.setDoors x).converter = s.converter := rfl
@[simp] theorem setDoors_zones (s : State) (x : Bank DoorRecord 24) : (s.setDoors x).zones = s.zones := rfl
@[simp] theorem setDoors_exposure (s : State) (x : Bank DoorRecord 24) : (s.setDoors x).exposure = s.exposure := rfl
@[simp] theorem setDoors_pallets (s : State) (x : Bank DoorRecord 24) : (s.setDoors x).pallets = s.pallets := rfl
@[simp] theorem setDoors_lanes (s : State) (x : Bank DoorRecord 24) : (s.setDoors x).lanes = s.lanes := rfl
@[simp] theorem setDoors_doors (s : State) (x : Bank DoorRecord 24) : (s.setDoors x).doors = x := rfl
@[simp] theorem setDoors_waits (s : State) (x : Bank DoorRecord 24) : (s.setDoors x).waits = s.waits := rfl
@[simp] theorem setDoors_loop (s : State) (x : Bank DoorRecord 24) : (s.setDoors x).loop = s.loop := rfl
@[simp] theorem setDoors_units (s : State) (x : Bank DoorRecord 24) : (s.setDoors x).units = s.units := rfl
@[simp] theorem setDoors_defrostQueue (s : State) (x : Bank DoorRecord 24) : (s.setDoors x).defrostQueue = s.defrostQueue := rfl
@[simp] theorem setDoors_manifests (s : State) (x : Bank DoorRecord 24) : (s.setDoors x).manifests = s.manifests := rfl
@[simp] theorem setDoors_alarms (s : State) (x : Bank DoorRecord 24) : (s.setDoors x).alarms = s.alarms := rfl
@[simp] theorem setDoors_ports (s : State) (x : Bank DoorRecord 24) : (s.setDoors x).ports = s.ports := rfl
@[simp] theorem setDoors_profile (s : State) (x : Bank DoorRecord 24) : (s.setDoors x).profile = s.profile := rfl
@[simp] theorem setDoors_store (s : State) (x : Bank DoorRecord 24) : (s.setDoors x).store = s.store := rfl

@[simp] theorem setWaits_pending (s : State) (x : Bank (List DoorId) 8) : (s.setWaits x).pending = s.pending := rfl
@[simp] theorem setWaits_power (s : State) (x : Bank (List DoorId) 8) : (s.setWaits x).power = s.power := rfl
@[simp] theorem setWaits_marker (s : State) (x : Bank (List DoorId) 8) : (s.setWaits x).marker = s.marker := rfl
@[simp] theorem setWaits_clock (s : State) (x : Bank (List DoorId) 8) : (s.setWaits x).clock = s.clock := rfl
@[simp] theorem setWaits_clockValid (s : State) (x : Bank (List DoorId) 8) : (s.setWaits x).clockValid = s.clockValid := rfl
@[simp] theorem setWaits_report (s : State) (x : Bank (List DoorId) 8) : (s.setWaits x).report = s.report := rfl
@[simp] theorem setWaits_converter (s : State) (x : Bank (List DoorId) 8) : (s.setWaits x).converter = s.converter := rfl
@[simp] theorem setWaits_zones (s : State) (x : Bank (List DoorId) 8) : (s.setWaits x).zones = s.zones := rfl
@[simp] theorem setWaits_exposure (s : State) (x : Bank (List DoorId) 8) : (s.setWaits x).exposure = s.exposure := rfl
@[simp] theorem setWaits_pallets (s : State) (x : Bank (List DoorId) 8) : (s.setWaits x).pallets = s.pallets := rfl
@[simp] theorem setWaits_lanes (s : State) (x : Bank (List DoorId) 8) : (s.setWaits x).lanes = s.lanes := rfl
@[simp] theorem setWaits_doors (s : State) (x : Bank (List DoorId) 8) : (s.setWaits x).doors = s.doors := rfl
@[simp] theorem setWaits_waits (s : State) (x : Bank (List DoorId) 8) : (s.setWaits x).waits = x := rfl
@[simp] theorem setWaits_loop (s : State) (x : Bank (List DoorId) 8) : (s.setWaits x).loop = s.loop := rfl
@[simp] theorem setWaits_units (s : State) (x : Bank (List DoorId) 8) : (s.setWaits x).units = s.units := rfl
@[simp] theorem setWaits_defrostQueue (s : State) (x : Bank (List DoorId) 8) : (s.setWaits x).defrostQueue = s.defrostQueue := rfl
@[simp] theorem setWaits_manifests (s : State) (x : Bank (List DoorId) 8) : (s.setWaits x).manifests = s.manifests := rfl
@[simp] theorem setWaits_alarms (s : State) (x : Bank (List DoorId) 8) : (s.setWaits x).alarms = s.alarms := rfl
@[simp] theorem setWaits_ports (s : State) (x : Bank (List DoorId) 8) : (s.setWaits x).ports = s.ports := rfl
@[simp] theorem setWaits_profile (s : State) (x : Bank (List DoorId) 8) : (s.setWaits x).profile = s.profile := rfl
@[simp] theorem setWaits_store (s : State) (x : Bank (List DoorId) 8) : (s.setWaits x).store = s.store := rfl

@[simp] theorem setLoop_pending (s : State) (x : Loop) : (s.setLoop x).pending = s.pending := rfl
@[simp] theorem setLoop_power (s : State) (x : Loop) : (s.setLoop x).power = s.power := rfl
@[simp] theorem setLoop_marker (s : State) (x : Loop) : (s.setLoop x).marker = s.marker := rfl
@[simp] theorem setLoop_clock (s : State) (x : Loop) : (s.setLoop x).clock = s.clock := rfl
@[simp] theorem setLoop_clockValid (s : State) (x : Loop) : (s.setLoop x).clockValid = s.clockValid := rfl
@[simp] theorem setLoop_report (s : State) (x : Loop) : (s.setLoop x).report = s.report := rfl
@[simp] theorem setLoop_converter (s : State) (x : Loop) : (s.setLoop x).converter = s.converter := rfl
@[simp] theorem setLoop_zones (s : State) (x : Loop) : (s.setLoop x).zones = s.zones := rfl
@[simp] theorem setLoop_exposure (s : State) (x : Loop) : (s.setLoop x).exposure = s.exposure := rfl
@[simp] theorem setLoop_pallets (s : State) (x : Loop) : (s.setLoop x).pallets = s.pallets := rfl
@[simp] theorem setLoop_lanes (s : State) (x : Loop) : (s.setLoop x).lanes = s.lanes := rfl
@[simp] theorem setLoop_doors (s : State) (x : Loop) : (s.setLoop x).doors = s.doors := rfl
@[simp] theorem setLoop_waits (s : State) (x : Loop) : (s.setLoop x).waits = s.waits := rfl
@[simp] theorem setLoop_loop (s : State) (x : Loop) : (s.setLoop x).loop = x := rfl
@[simp] theorem setLoop_units (s : State) (x : Loop) : (s.setLoop x).units = s.units := rfl
@[simp] theorem setLoop_defrostQueue (s : State) (x : Loop) : (s.setLoop x).defrostQueue = s.defrostQueue := rfl
@[simp] theorem setLoop_manifests (s : State) (x : Loop) : (s.setLoop x).manifests = s.manifests := rfl
@[simp] theorem setLoop_alarms (s : State) (x : Loop) : (s.setLoop x).alarms = s.alarms := rfl
@[simp] theorem setLoop_ports (s : State) (x : Loop) : (s.setLoop x).ports = s.ports := rfl
@[simp] theorem setLoop_profile (s : State) (x : Loop) : (s.setLoop x).profile = s.profile := rfl
@[simp] theorem setLoop_store (s : State) (x : Loop) : (s.setLoop x).store = s.store := rfl

@[simp] theorem setUnits_pending (s : State) (x : Bank DefrostUnit 8) : (s.setUnits x).pending = s.pending := rfl
@[simp] theorem setUnits_power (s : State) (x : Bank DefrostUnit 8) : (s.setUnits x).power = s.power := rfl
@[simp] theorem setUnits_marker (s : State) (x : Bank DefrostUnit 8) : (s.setUnits x).marker = s.marker := rfl
@[simp] theorem setUnits_clock (s : State) (x : Bank DefrostUnit 8) : (s.setUnits x).clock = s.clock := rfl
@[simp] theorem setUnits_clockValid (s : State) (x : Bank DefrostUnit 8) : (s.setUnits x).clockValid = s.clockValid := rfl
@[simp] theorem setUnits_report (s : State) (x : Bank DefrostUnit 8) : (s.setUnits x).report = s.report := rfl
@[simp] theorem setUnits_converter (s : State) (x : Bank DefrostUnit 8) : (s.setUnits x).converter = s.converter := rfl
@[simp] theorem setUnits_zones (s : State) (x : Bank DefrostUnit 8) : (s.setUnits x).zones = s.zones := rfl
@[simp] theorem setUnits_exposure (s : State) (x : Bank DefrostUnit 8) : (s.setUnits x).exposure = s.exposure := rfl
@[simp] theorem setUnits_pallets (s : State) (x : Bank DefrostUnit 8) : (s.setUnits x).pallets = s.pallets := rfl
@[simp] theorem setUnits_lanes (s : State) (x : Bank DefrostUnit 8) : (s.setUnits x).lanes = s.lanes := rfl
@[simp] theorem setUnits_doors (s : State) (x : Bank DefrostUnit 8) : (s.setUnits x).doors = s.doors := rfl
@[simp] theorem setUnits_waits (s : State) (x : Bank DefrostUnit 8) : (s.setUnits x).waits = s.waits := rfl
@[simp] theorem setUnits_loop (s : State) (x : Bank DefrostUnit 8) : (s.setUnits x).loop = s.loop := rfl
@[simp] theorem setUnits_units (s : State) (x : Bank DefrostUnit 8) : (s.setUnits x).units = x := rfl
@[simp] theorem setUnits_defrostQueue (s : State) (x : Bank DefrostUnit 8) : (s.setUnits x).defrostQueue = s.defrostQueue := rfl
@[simp] theorem setUnits_manifests (s : State) (x : Bank DefrostUnit 8) : (s.setUnits x).manifests = s.manifests := rfl
@[simp] theorem setUnits_alarms (s : State) (x : Bank DefrostUnit 8) : (s.setUnits x).alarms = s.alarms := rfl
@[simp] theorem setUnits_ports (s : State) (x : Bank DefrostUnit 8) : (s.setUnits x).ports = s.ports := rfl
@[simp] theorem setUnits_profile (s : State) (x : Bank DefrostUnit 8) : (s.setUnits x).profile = s.profile := rfl
@[simp] theorem setUnits_store (s : State) (x : Bank DefrostUnit 8) : (s.setUnits x).store = s.store := rfl

@[simp] theorem setDefrostQueue_pending (s : State) (x : List ZoneId) : (s.setDefrostQueue x).pending = s.pending := rfl
@[simp] theorem setDefrostQueue_power (s : State) (x : List ZoneId) : (s.setDefrostQueue x).power = s.power := rfl
@[simp] theorem setDefrostQueue_marker (s : State) (x : List ZoneId) : (s.setDefrostQueue x).marker = s.marker := rfl
@[simp] theorem setDefrostQueue_clock (s : State) (x : List ZoneId) : (s.setDefrostQueue x).clock = s.clock := rfl
@[simp] theorem setDefrostQueue_clockValid (s : State) (x : List ZoneId) : (s.setDefrostQueue x).clockValid = s.clockValid := rfl
@[simp] theorem setDefrostQueue_report (s : State) (x : List ZoneId) : (s.setDefrostQueue x).report = s.report := rfl
@[simp] theorem setDefrostQueue_converter (s : State) (x : List ZoneId) : (s.setDefrostQueue x).converter = s.converter := rfl
@[simp] theorem setDefrostQueue_zones (s : State) (x : List ZoneId) : (s.setDefrostQueue x).zones = s.zones := rfl
@[simp] theorem setDefrostQueue_exposure (s : State) (x : List ZoneId) : (s.setDefrostQueue x).exposure = s.exposure := rfl
@[simp] theorem setDefrostQueue_pallets (s : State) (x : List ZoneId) : (s.setDefrostQueue x).pallets = s.pallets := rfl
@[simp] theorem setDefrostQueue_lanes (s : State) (x : List ZoneId) : (s.setDefrostQueue x).lanes = s.lanes := rfl
@[simp] theorem setDefrostQueue_doors (s : State) (x : List ZoneId) : (s.setDefrostQueue x).doors = s.doors := rfl
@[simp] theorem setDefrostQueue_waits (s : State) (x : List ZoneId) : (s.setDefrostQueue x).waits = s.waits := rfl
@[simp] theorem setDefrostQueue_loop (s : State) (x : List ZoneId) : (s.setDefrostQueue x).loop = s.loop := rfl
@[simp] theorem setDefrostQueue_units (s : State) (x : List ZoneId) : (s.setDefrostQueue x).units = s.units := rfl
@[simp] theorem setDefrostQueue_defrostQueue (s : State) (x : List ZoneId) : (s.setDefrostQueue x).defrostQueue = x := rfl
@[simp] theorem setDefrostQueue_manifests (s : State) (x : List ZoneId) : (s.setDefrostQueue x).manifests = s.manifests := rfl
@[simp] theorem setDefrostQueue_alarms (s : State) (x : List ZoneId) : (s.setDefrostQueue x).alarms = s.alarms := rfl
@[simp] theorem setDefrostQueue_ports (s : State) (x : List ZoneId) : (s.setDefrostQueue x).ports = s.ports := rfl
@[simp] theorem setDefrostQueue_profile (s : State) (x : List ZoneId) : (s.setDefrostQueue x).profile = s.profile := rfl
@[simp] theorem setDefrostQueue_store (s : State) (x : List ZoneId) : (s.setDefrostQueue x).store = s.store := rfl

@[simp] theorem setManifests_pending (s : State) (x : Bank (List Departure) 24) : (s.setManifests x).pending = s.pending := rfl
@[simp] theorem setManifests_power (s : State) (x : Bank (List Departure) 24) : (s.setManifests x).power = s.power := rfl
@[simp] theorem setManifests_marker (s : State) (x : Bank (List Departure) 24) : (s.setManifests x).marker = s.marker := rfl
@[simp] theorem setManifests_clock (s : State) (x : Bank (List Departure) 24) : (s.setManifests x).clock = s.clock := rfl
@[simp] theorem setManifests_clockValid (s : State) (x : Bank (List Departure) 24) : (s.setManifests x).clockValid = s.clockValid := rfl
@[simp] theorem setManifests_report (s : State) (x : Bank (List Departure) 24) : (s.setManifests x).report = s.report := rfl
@[simp] theorem setManifests_converter (s : State) (x : Bank (List Departure) 24) : (s.setManifests x).converter = s.converter := rfl
@[simp] theorem setManifests_zones (s : State) (x : Bank (List Departure) 24) : (s.setManifests x).zones = s.zones := rfl
@[simp] theorem setManifests_exposure (s : State) (x : Bank (List Departure) 24) : (s.setManifests x).exposure = s.exposure := rfl
@[simp] theorem setManifests_pallets (s : State) (x : Bank (List Departure) 24) : (s.setManifests x).pallets = s.pallets := rfl
@[simp] theorem setManifests_lanes (s : State) (x : Bank (List Departure) 24) : (s.setManifests x).lanes = s.lanes := rfl
@[simp] theorem setManifests_doors (s : State) (x : Bank (List Departure) 24) : (s.setManifests x).doors = s.doors := rfl
@[simp] theorem setManifests_waits (s : State) (x : Bank (List Departure) 24) : (s.setManifests x).waits = s.waits := rfl
@[simp] theorem setManifests_loop (s : State) (x : Bank (List Departure) 24) : (s.setManifests x).loop = s.loop := rfl
@[simp] theorem setManifests_units (s : State) (x : Bank (List Departure) 24) : (s.setManifests x).units = s.units := rfl
@[simp] theorem setManifests_defrostQueue (s : State) (x : Bank (List Departure) 24) : (s.setManifests x).defrostQueue = s.defrostQueue := rfl
@[simp] theorem setManifests_manifests (s : State) (x : Bank (List Departure) 24) : (s.setManifests x).manifests = x := rfl
@[simp] theorem setManifests_alarms (s : State) (x : Bank (List Departure) 24) : (s.setManifests x).alarms = s.alarms := rfl
@[simp] theorem setManifests_ports (s : State) (x : Bank (List Departure) 24) : (s.setManifests x).ports = s.ports := rfl
@[simp] theorem setManifests_profile (s : State) (x : Bank (List Departure) 24) : (s.setManifests x).profile = s.profile := rfl
@[simp] theorem setManifests_store (s : State) (x : Bank (List Departure) 24) : (s.setManifests x).store = s.store := rfl

@[simp] theorem setAlarms_pending (s : State) (x : AlarmList) : (s.setAlarms x).pending = s.pending := rfl
@[simp] theorem setAlarms_power (s : State) (x : AlarmList) : (s.setAlarms x).power = s.power := rfl
@[simp] theorem setAlarms_marker (s : State) (x : AlarmList) : (s.setAlarms x).marker = s.marker := rfl
@[simp] theorem setAlarms_clock (s : State) (x : AlarmList) : (s.setAlarms x).clock = s.clock := rfl
@[simp] theorem setAlarms_clockValid (s : State) (x : AlarmList) : (s.setAlarms x).clockValid = s.clockValid := rfl
@[simp] theorem setAlarms_report (s : State) (x : AlarmList) : (s.setAlarms x).report = s.report := rfl
@[simp] theorem setAlarms_converter (s : State) (x : AlarmList) : (s.setAlarms x).converter = s.converter := rfl
@[simp] theorem setAlarms_zones (s : State) (x : AlarmList) : (s.setAlarms x).zones = s.zones := rfl
@[simp] theorem setAlarms_exposure (s : State) (x : AlarmList) : (s.setAlarms x).exposure = s.exposure := rfl
@[simp] theorem setAlarms_pallets (s : State) (x : AlarmList) : (s.setAlarms x).pallets = s.pallets := rfl
@[simp] theorem setAlarms_lanes (s : State) (x : AlarmList) : (s.setAlarms x).lanes = s.lanes := rfl
@[simp] theorem setAlarms_doors (s : State) (x : AlarmList) : (s.setAlarms x).doors = s.doors := rfl
@[simp] theorem setAlarms_waits (s : State) (x : AlarmList) : (s.setAlarms x).waits = s.waits := rfl
@[simp] theorem setAlarms_loop (s : State) (x : AlarmList) : (s.setAlarms x).loop = s.loop := rfl
@[simp] theorem setAlarms_units (s : State) (x : AlarmList) : (s.setAlarms x).units = s.units := rfl
@[simp] theorem setAlarms_defrostQueue (s : State) (x : AlarmList) : (s.setAlarms x).defrostQueue = s.defrostQueue := rfl
@[simp] theorem setAlarms_manifests (s : State) (x : AlarmList) : (s.setAlarms x).manifests = s.manifests := rfl
@[simp] theorem setAlarms_alarms (s : State) (x : AlarmList) : (s.setAlarms x).alarms = x := rfl
@[simp] theorem setAlarms_ports (s : State) (x : AlarmList) : (s.setAlarms x).ports = s.ports := rfl
@[simp] theorem setAlarms_profile (s : State) (x : AlarmList) : (s.setAlarms x).profile = s.profile := rfl
@[simp] theorem setAlarms_store (s : State) (x : AlarmList) : (s.setAlarms x).store = s.store := rfl

@[simp] theorem setPorts_pending (s : State) (x : Ports) : (s.setPorts x).pending = s.pending := rfl
@[simp] theorem setPorts_power (s : State) (x : Ports) : (s.setPorts x).power = s.power := rfl
@[simp] theorem setPorts_marker (s : State) (x : Ports) : (s.setPorts x).marker = s.marker := rfl
@[simp] theorem setPorts_clock (s : State) (x : Ports) : (s.setPorts x).clock = s.clock := rfl
@[simp] theorem setPorts_clockValid (s : State) (x : Ports) : (s.setPorts x).clockValid = s.clockValid := rfl
@[simp] theorem setPorts_report (s : State) (x : Ports) : (s.setPorts x).report = s.report := rfl
@[simp] theorem setPorts_converter (s : State) (x : Ports) : (s.setPorts x).converter = s.converter := rfl
@[simp] theorem setPorts_zones (s : State) (x : Ports) : (s.setPorts x).zones = s.zones := rfl
@[simp] theorem setPorts_exposure (s : State) (x : Ports) : (s.setPorts x).exposure = s.exposure := rfl
@[simp] theorem setPorts_pallets (s : State) (x : Ports) : (s.setPorts x).pallets = s.pallets := rfl
@[simp] theorem setPorts_lanes (s : State) (x : Ports) : (s.setPorts x).lanes = s.lanes := rfl
@[simp] theorem setPorts_doors (s : State) (x : Ports) : (s.setPorts x).doors = s.doors := rfl
@[simp] theorem setPorts_waits (s : State) (x : Ports) : (s.setPorts x).waits = s.waits := rfl
@[simp] theorem setPorts_loop (s : State) (x : Ports) : (s.setPorts x).loop = s.loop := rfl
@[simp] theorem setPorts_units (s : State) (x : Ports) : (s.setPorts x).units = s.units := rfl
@[simp] theorem setPorts_defrostQueue (s : State) (x : Ports) : (s.setPorts x).defrostQueue = s.defrostQueue := rfl
@[simp] theorem setPorts_manifests (s : State) (x : Ports) : (s.setPorts x).manifests = s.manifests := rfl
@[simp] theorem setPorts_alarms (s : State) (x : Ports) : (s.setPorts x).alarms = s.alarms := rfl
@[simp] theorem setPorts_ports (s : State) (x : Ports) : (s.setPorts x).ports = x := rfl
@[simp] theorem setPorts_profile (s : State) (x : Ports) : (s.setPorts x).profile = s.profile := rfl
@[simp] theorem setPorts_store (s : State) (x : Ports) : (s.setPorts x).store = s.store := rfl

@[simp] theorem setProfile_pending (s : State) (x : Profile) : (s.setProfile x).pending = s.pending := rfl
@[simp] theorem setProfile_power (s : State) (x : Profile) : (s.setProfile x).power = s.power := rfl
@[simp] theorem setProfile_marker (s : State) (x : Profile) : (s.setProfile x).marker = s.marker := rfl
@[simp] theorem setProfile_clock (s : State) (x : Profile) : (s.setProfile x).clock = s.clock := rfl
@[simp] theorem setProfile_clockValid (s : State) (x : Profile) : (s.setProfile x).clockValid = s.clockValid := rfl
@[simp] theorem setProfile_report (s : State) (x : Profile) : (s.setProfile x).report = s.report := rfl
@[simp] theorem setProfile_converter (s : State) (x : Profile) : (s.setProfile x).converter = s.converter := rfl
@[simp] theorem setProfile_zones (s : State) (x : Profile) : (s.setProfile x).zones = s.zones := rfl
@[simp] theorem setProfile_exposure (s : State) (x : Profile) : (s.setProfile x).exposure = s.exposure := rfl
@[simp] theorem setProfile_pallets (s : State) (x : Profile) : (s.setProfile x).pallets = s.pallets := rfl
@[simp] theorem setProfile_lanes (s : State) (x : Profile) : (s.setProfile x).lanes = s.lanes := rfl
@[simp] theorem setProfile_doors (s : State) (x : Profile) : (s.setProfile x).doors = s.doors := rfl
@[simp] theorem setProfile_waits (s : State) (x : Profile) : (s.setProfile x).waits = s.waits := rfl
@[simp] theorem setProfile_loop (s : State) (x : Profile) : (s.setProfile x).loop = s.loop := rfl
@[simp] theorem setProfile_units (s : State) (x : Profile) : (s.setProfile x).units = s.units := rfl
@[simp] theorem setProfile_defrostQueue (s : State) (x : Profile) : (s.setProfile x).defrostQueue = s.defrostQueue := rfl
@[simp] theorem setProfile_manifests (s : State) (x : Profile) : (s.setProfile x).manifests = s.manifests := rfl
@[simp] theorem setProfile_alarms (s : State) (x : Profile) : (s.setProfile x).alarms = s.alarms := rfl
@[simp] theorem setProfile_ports (s : State) (x : Profile) : (s.setProfile x).ports = s.ports := rfl
@[simp] theorem setProfile_profile (s : State) (x : Profile) : (s.setProfile x).profile = x := rfl
@[simp] theorem setProfile_store (s : State) (x : Profile) : (s.setProfile x).store = s.store := rfl

@[simp] theorem setStore_pending (s : State) (x : Store) : (s.setStore x).pending = s.pending := rfl
@[simp] theorem setStore_power (s : State) (x : Store) : (s.setStore x).power = s.power := rfl
@[simp] theorem setStore_marker (s : State) (x : Store) : (s.setStore x).marker = s.marker := rfl
@[simp] theorem setStore_clock (s : State) (x : Store) : (s.setStore x).clock = s.clock := rfl
@[simp] theorem setStore_clockValid (s : State) (x : Store) : (s.setStore x).clockValid = s.clockValid := rfl
@[simp] theorem setStore_report (s : State) (x : Store) : (s.setStore x).report = s.report := rfl
@[simp] theorem setStore_converter (s : State) (x : Store) : (s.setStore x).converter = s.converter := rfl
@[simp] theorem setStore_zones (s : State) (x : Store) : (s.setStore x).zones = s.zones := rfl
@[simp] theorem setStore_exposure (s : State) (x : Store) : (s.setStore x).exposure = s.exposure := rfl
@[simp] theorem setStore_pallets (s : State) (x : Store) : (s.setStore x).pallets = s.pallets := rfl
@[simp] theorem setStore_lanes (s : State) (x : Store) : (s.setStore x).lanes = s.lanes := rfl
@[simp] theorem setStore_doors (s : State) (x : Store) : (s.setStore x).doors = s.doors := rfl
@[simp] theorem setStore_waits (s : State) (x : Store) : (s.setStore x).waits = s.waits := rfl
@[simp] theorem setStore_loop (s : State) (x : Store) : (s.setStore x).loop = s.loop := rfl
@[simp] theorem setStore_units (s : State) (x : Store) : (s.setStore x).units = s.units := rfl
@[simp] theorem setStore_defrostQueue (s : State) (x : Store) : (s.setStore x).defrostQueue = s.defrostQueue := rfl
@[simp] theorem setStore_manifests (s : State) (x : Store) : (s.setStore x).manifests = s.manifests := rfl
@[simp] theorem setStore_alarms (s : State) (x : Store) : (s.setStore x).alarms = s.alarms := rfl
@[simp] theorem setStore_ports (s : State) (x : Store) : (s.setStore x).ports = s.ports := rfl
@[simp] theorem setStore_profile (s : State) (x : Store) : (s.setStore x).profile = s.profile := rfl
@[simp] theorem setStore_store (s : State) (x : Store) : (s.setStore x).store = x := rfl

@[simp] theorem putZone_pending (s : State) (z : ZoneId) (r : ZoneRecord) : (s.putZone z r).pending = s.pending := rfl
@[simp] theorem putZone_power (s : State) (z : ZoneId) (r : ZoneRecord) : (s.putZone z r).power = s.power := rfl
@[simp] theorem putZone_marker (s : State) (z : ZoneId) (r : ZoneRecord) : (s.putZone z r).marker = s.marker := rfl
@[simp] theorem putZone_clock (s : State) (z : ZoneId) (r : ZoneRecord) : (s.putZone z r).clock = s.clock := rfl
@[simp] theorem putZone_clockValid (s : State) (z : ZoneId) (r : ZoneRecord) : (s.putZone z r).clockValid = s.clockValid := rfl
@[simp] theorem putZone_report (s : State) (z : ZoneId) (r : ZoneRecord) : (s.putZone z r).report = s.report := rfl
@[simp] theorem putZone_converter (s : State) (z : ZoneId) (r : ZoneRecord) : (s.putZone z r).converter = s.converter := rfl
@[simp] theorem putZone_zones (s : State) (z : ZoneId) (r : ZoneRecord) : (s.putZone z r).zones = s.zones.put z r := rfl
@[simp] theorem putZone_exposure (s : State) (z : ZoneId) (r : ZoneRecord) : (s.putZone z r).exposure = s.exposure := rfl
@[simp] theorem putZone_pallets (s : State) (z : ZoneId) (r : ZoneRecord) : (s.putZone z r).pallets = s.pallets := rfl
@[simp] theorem putZone_lanes (s : State) (z : ZoneId) (r : ZoneRecord) : (s.putZone z r).lanes = s.lanes := rfl
@[simp] theorem putZone_doors (s : State) (z : ZoneId) (r : ZoneRecord) : (s.putZone z r).doors = s.doors := rfl
@[simp] theorem putZone_waits (s : State) (z : ZoneId) (r : ZoneRecord) : (s.putZone z r).waits = s.waits := rfl
@[simp] theorem putZone_loop (s : State) (z : ZoneId) (r : ZoneRecord) : (s.putZone z r).loop = s.loop := rfl
@[simp] theorem putZone_units (s : State) (z : ZoneId) (r : ZoneRecord) : (s.putZone z r).units = s.units := rfl
@[simp] theorem putZone_defrostQueue (s : State) (z : ZoneId) (r : ZoneRecord) : (s.putZone z r).defrostQueue = s.defrostQueue := rfl
@[simp] theorem putZone_manifests (s : State) (z : ZoneId) (r : ZoneRecord) : (s.putZone z r).manifests = s.manifests := rfl
@[simp] theorem putZone_alarms (s : State) (z : ZoneId) (r : ZoneRecord) : (s.putZone z r).alarms = s.alarms := rfl
@[simp] theorem putZone_ports (s : State) (z : ZoneId) (r : ZoneRecord) : (s.putZone z r).ports = s.ports := rfl
@[simp] theorem putZone_profile (s : State) (z : ZoneId) (r : ZoneRecord) : (s.putZone z r).profile = s.profile := rfl
@[simp] theorem putZone_store (s : State) (z : ZoneId) (r : ZoneRecord) : (s.putZone z r).store = s.store := rfl

@[simp] theorem putLane_pending (s : State) (l : LaneId) (q : List Nat) : (s.putLane l q).pending = s.pending := rfl
@[simp] theorem putLane_power (s : State) (l : LaneId) (q : List Nat) : (s.putLane l q).power = s.power := rfl
@[simp] theorem putLane_marker (s : State) (l : LaneId) (q : List Nat) : (s.putLane l q).marker = s.marker := rfl
@[simp] theorem putLane_clock (s : State) (l : LaneId) (q : List Nat) : (s.putLane l q).clock = s.clock := rfl
@[simp] theorem putLane_clockValid (s : State) (l : LaneId) (q : List Nat) : (s.putLane l q).clockValid = s.clockValid := rfl
@[simp] theorem putLane_report (s : State) (l : LaneId) (q : List Nat) : (s.putLane l q).report = s.report := rfl
@[simp] theorem putLane_converter (s : State) (l : LaneId) (q : List Nat) : (s.putLane l q).converter = s.converter := rfl
@[simp] theorem putLane_zones (s : State) (l : LaneId) (q : List Nat) : (s.putLane l q).zones = s.zones := rfl
@[simp] theorem putLane_exposure (s : State) (l : LaneId) (q : List Nat) : (s.putLane l q).exposure = s.exposure := rfl
@[simp] theorem putLane_pallets (s : State) (l : LaneId) (q : List Nat) : (s.putLane l q).pallets = s.pallets := rfl
@[simp] theorem putLane_lanes (s : State) (l : LaneId) (q : List Nat) : (s.putLane l q).lanes = s.lanes.put l q := rfl
@[simp] theorem putLane_doors (s : State) (l : LaneId) (q : List Nat) : (s.putLane l q).doors = s.doors := rfl
@[simp] theorem putLane_waits (s : State) (l : LaneId) (q : List Nat) : (s.putLane l q).waits = s.waits := rfl
@[simp] theorem putLane_loop (s : State) (l : LaneId) (q : List Nat) : (s.putLane l q).loop = s.loop := rfl
@[simp] theorem putLane_units (s : State) (l : LaneId) (q : List Nat) : (s.putLane l q).units = s.units := rfl
@[simp] theorem putLane_defrostQueue (s : State) (l : LaneId) (q : List Nat) : (s.putLane l q).defrostQueue = s.defrostQueue := rfl
@[simp] theorem putLane_manifests (s : State) (l : LaneId) (q : List Nat) : (s.putLane l q).manifests = s.manifests := rfl
@[simp] theorem putLane_alarms (s : State) (l : LaneId) (q : List Nat) : (s.putLane l q).alarms = s.alarms := rfl
@[simp] theorem putLane_ports (s : State) (l : LaneId) (q : List Nat) : (s.putLane l q).ports = s.ports := rfl
@[simp] theorem putLane_profile (s : State) (l : LaneId) (q : List Nat) : (s.putLane l q).profile = s.profile := rfl
@[simp] theorem putLane_store (s : State) (l : LaneId) (q : List Nat) : (s.putLane l q).store = s.store := rfl

@[simp] theorem putDoor_pending (s : State) (d : DoorId) (r : DoorRecord) : (s.putDoor d r).pending = s.pending := rfl
@[simp] theorem putDoor_power (s : State) (d : DoorId) (r : DoorRecord) : (s.putDoor d r).power = s.power := rfl
@[simp] theorem putDoor_marker (s : State) (d : DoorId) (r : DoorRecord) : (s.putDoor d r).marker = s.marker := rfl
@[simp] theorem putDoor_clock (s : State) (d : DoorId) (r : DoorRecord) : (s.putDoor d r).clock = s.clock := rfl
@[simp] theorem putDoor_clockValid (s : State) (d : DoorId) (r : DoorRecord) : (s.putDoor d r).clockValid = s.clockValid := rfl
@[simp] theorem putDoor_report (s : State) (d : DoorId) (r : DoorRecord) : (s.putDoor d r).report = s.report := rfl
@[simp] theorem putDoor_converter (s : State) (d : DoorId) (r : DoorRecord) : (s.putDoor d r).converter = s.converter := rfl
@[simp] theorem putDoor_zones (s : State) (d : DoorId) (r : DoorRecord) : (s.putDoor d r).zones = s.zones := rfl
@[simp] theorem putDoor_exposure (s : State) (d : DoorId) (r : DoorRecord) : (s.putDoor d r).exposure = s.exposure := rfl
@[simp] theorem putDoor_pallets (s : State) (d : DoorId) (r : DoorRecord) : (s.putDoor d r).pallets = s.pallets := rfl
@[simp] theorem putDoor_lanes (s : State) (d : DoorId) (r : DoorRecord) : (s.putDoor d r).lanes = s.lanes := rfl
@[simp] theorem putDoor_doors (s : State) (d : DoorId) (r : DoorRecord) : (s.putDoor d r).doors = s.doors.put d r := rfl
@[simp] theorem putDoor_waits (s : State) (d : DoorId) (r : DoorRecord) : (s.putDoor d r).waits = s.waits := rfl
@[simp] theorem putDoor_loop (s : State) (d : DoorId) (r : DoorRecord) : (s.putDoor d r).loop = s.loop := rfl
@[simp] theorem putDoor_units (s : State) (d : DoorId) (r : DoorRecord) : (s.putDoor d r).units = s.units := rfl
@[simp] theorem putDoor_defrostQueue (s : State) (d : DoorId) (r : DoorRecord) : (s.putDoor d r).defrostQueue = s.defrostQueue := rfl
@[simp] theorem putDoor_manifests (s : State) (d : DoorId) (r : DoorRecord) : (s.putDoor d r).manifests = s.manifests := rfl
@[simp] theorem putDoor_alarms (s : State) (d : DoorId) (r : DoorRecord) : (s.putDoor d r).alarms = s.alarms := rfl
@[simp] theorem putDoor_ports (s : State) (d : DoorId) (r : DoorRecord) : (s.putDoor d r).ports = s.ports := rfl
@[simp] theorem putDoor_profile (s : State) (d : DoorId) (r : DoorRecord) : (s.putDoor d r).profile = s.profile := rfl
@[simp] theorem putDoor_store (s : State) (d : DoorId) (r : DoorRecord) : (s.putDoor d r).store = s.store := rfl

@[simp] theorem putWait_pending (s : State) (z : ZoneId) (q : List DoorId) : (s.putWait z q).pending = s.pending := rfl
@[simp] theorem putWait_power (s : State) (z : ZoneId) (q : List DoorId) : (s.putWait z q).power = s.power := rfl
@[simp] theorem putWait_marker (s : State) (z : ZoneId) (q : List DoorId) : (s.putWait z q).marker = s.marker := rfl
@[simp] theorem putWait_clock (s : State) (z : ZoneId) (q : List DoorId) : (s.putWait z q).clock = s.clock := rfl
@[simp] theorem putWait_clockValid (s : State) (z : ZoneId) (q : List DoorId) : (s.putWait z q).clockValid = s.clockValid := rfl
@[simp] theorem putWait_report (s : State) (z : ZoneId) (q : List DoorId) : (s.putWait z q).report = s.report := rfl
@[simp] theorem putWait_converter (s : State) (z : ZoneId) (q : List DoorId) : (s.putWait z q).converter = s.converter := rfl
@[simp] theorem putWait_zones (s : State) (z : ZoneId) (q : List DoorId) : (s.putWait z q).zones = s.zones := rfl
@[simp] theorem putWait_exposure (s : State) (z : ZoneId) (q : List DoorId) : (s.putWait z q).exposure = s.exposure := rfl
@[simp] theorem putWait_pallets (s : State) (z : ZoneId) (q : List DoorId) : (s.putWait z q).pallets = s.pallets := rfl
@[simp] theorem putWait_lanes (s : State) (z : ZoneId) (q : List DoorId) : (s.putWait z q).lanes = s.lanes := rfl
@[simp] theorem putWait_doors (s : State) (z : ZoneId) (q : List DoorId) : (s.putWait z q).doors = s.doors := rfl
@[simp] theorem putWait_waits (s : State) (z : ZoneId) (q : List DoorId) : (s.putWait z q).waits = s.waits.put z q := rfl
@[simp] theorem putWait_loop (s : State) (z : ZoneId) (q : List DoorId) : (s.putWait z q).loop = s.loop := rfl
@[simp] theorem putWait_units (s : State) (z : ZoneId) (q : List DoorId) : (s.putWait z q).units = s.units := rfl
@[simp] theorem putWait_defrostQueue (s : State) (z : ZoneId) (q : List DoorId) : (s.putWait z q).defrostQueue = s.defrostQueue := rfl
@[simp] theorem putWait_manifests (s : State) (z : ZoneId) (q : List DoorId) : (s.putWait z q).manifests = s.manifests := rfl
@[simp] theorem putWait_alarms (s : State) (z : ZoneId) (q : List DoorId) : (s.putWait z q).alarms = s.alarms := rfl
@[simp] theorem putWait_ports (s : State) (z : ZoneId) (q : List DoorId) : (s.putWait z q).ports = s.ports := rfl
@[simp] theorem putWait_profile (s : State) (z : ZoneId) (q : List DoorId) : (s.putWait z q).profile = s.profile := rfl
@[simp] theorem putWait_store (s : State) (z : ZoneId) (q : List DoorId) : (s.putWait z q).store = s.store := rfl

@[simp] theorem putUnit_pending (s : State) (z : ZoneId) (u : DefrostUnit) : (s.putUnit z u).pending = s.pending := rfl
@[simp] theorem putUnit_power (s : State) (z : ZoneId) (u : DefrostUnit) : (s.putUnit z u).power = s.power := rfl
@[simp] theorem putUnit_marker (s : State) (z : ZoneId) (u : DefrostUnit) : (s.putUnit z u).marker = s.marker := rfl
@[simp] theorem putUnit_clock (s : State) (z : ZoneId) (u : DefrostUnit) : (s.putUnit z u).clock = s.clock := rfl
@[simp] theorem putUnit_clockValid (s : State) (z : ZoneId) (u : DefrostUnit) : (s.putUnit z u).clockValid = s.clockValid := rfl
@[simp] theorem putUnit_report (s : State) (z : ZoneId) (u : DefrostUnit) : (s.putUnit z u).report = s.report := rfl
@[simp] theorem putUnit_converter (s : State) (z : ZoneId) (u : DefrostUnit) : (s.putUnit z u).converter = s.converter := rfl
@[simp] theorem putUnit_zones (s : State) (z : ZoneId) (u : DefrostUnit) : (s.putUnit z u).zones = s.zones := rfl
@[simp] theorem putUnit_exposure (s : State) (z : ZoneId) (u : DefrostUnit) : (s.putUnit z u).exposure = s.exposure := rfl
@[simp] theorem putUnit_pallets (s : State) (z : ZoneId) (u : DefrostUnit) : (s.putUnit z u).pallets = s.pallets := rfl
@[simp] theorem putUnit_lanes (s : State) (z : ZoneId) (u : DefrostUnit) : (s.putUnit z u).lanes = s.lanes := rfl
@[simp] theorem putUnit_doors (s : State) (z : ZoneId) (u : DefrostUnit) : (s.putUnit z u).doors = s.doors := rfl
@[simp] theorem putUnit_waits (s : State) (z : ZoneId) (u : DefrostUnit) : (s.putUnit z u).waits = s.waits := rfl
@[simp] theorem putUnit_loop (s : State) (z : ZoneId) (u : DefrostUnit) : (s.putUnit z u).loop = s.loop := rfl
@[simp] theorem putUnit_units (s : State) (z : ZoneId) (u : DefrostUnit) : (s.putUnit z u).units = s.units.put z u := rfl
@[simp] theorem putUnit_defrostQueue (s : State) (z : ZoneId) (u : DefrostUnit) : (s.putUnit z u).defrostQueue = s.defrostQueue := rfl
@[simp] theorem putUnit_manifests (s : State) (z : ZoneId) (u : DefrostUnit) : (s.putUnit z u).manifests = s.manifests := rfl
@[simp] theorem putUnit_alarms (s : State) (z : ZoneId) (u : DefrostUnit) : (s.putUnit z u).alarms = s.alarms := rfl
@[simp] theorem putUnit_ports (s : State) (z : ZoneId) (u : DefrostUnit) : (s.putUnit z u).ports = s.ports := rfl
@[simp] theorem putUnit_profile (s : State) (z : ZoneId) (u : DefrostUnit) : (s.putUnit z u).profile = s.profile := rfl
@[simp] theorem putUnit_store (s : State) (z : ZoneId) (u : DefrostUnit) : (s.putUnit z u).store = s.store := rfl

@[simp] theorem putManifest_pending (s : State) (d : DoorId) (m : List Departure) : (s.putManifest d m).pending = s.pending := rfl
@[simp] theorem putManifest_power (s : State) (d : DoorId) (m : List Departure) : (s.putManifest d m).power = s.power := rfl
@[simp] theorem putManifest_marker (s : State) (d : DoorId) (m : List Departure) : (s.putManifest d m).marker = s.marker := rfl
@[simp] theorem putManifest_clock (s : State) (d : DoorId) (m : List Departure) : (s.putManifest d m).clock = s.clock := rfl
@[simp] theorem putManifest_clockValid (s : State) (d : DoorId) (m : List Departure) : (s.putManifest d m).clockValid = s.clockValid := rfl
@[simp] theorem putManifest_report (s : State) (d : DoorId) (m : List Departure) : (s.putManifest d m).report = s.report := rfl
@[simp] theorem putManifest_converter (s : State) (d : DoorId) (m : List Departure) : (s.putManifest d m).converter = s.converter := rfl
@[simp] theorem putManifest_zones (s : State) (d : DoorId) (m : List Departure) : (s.putManifest d m).zones = s.zones := rfl
@[simp] theorem putManifest_exposure (s : State) (d : DoorId) (m : List Departure) : (s.putManifest d m).exposure = s.exposure := rfl
@[simp] theorem putManifest_pallets (s : State) (d : DoorId) (m : List Departure) : (s.putManifest d m).pallets = s.pallets := rfl
@[simp] theorem putManifest_lanes (s : State) (d : DoorId) (m : List Departure) : (s.putManifest d m).lanes = s.lanes := rfl
@[simp] theorem putManifest_doors (s : State) (d : DoorId) (m : List Departure) : (s.putManifest d m).doors = s.doors := rfl
@[simp] theorem putManifest_waits (s : State) (d : DoorId) (m : List Departure) : (s.putManifest d m).waits = s.waits := rfl
@[simp] theorem putManifest_loop (s : State) (d : DoorId) (m : List Departure) : (s.putManifest d m).loop = s.loop := rfl
@[simp] theorem putManifest_units (s : State) (d : DoorId) (m : List Departure) : (s.putManifest d m).units = s.units := rfl
@[simp] theorem putManifest_defrostQueue (s : State) (d : DoorId) (m : List Departure) : (s.putManifest d m).defrostQueue = s.defrostQueue := rfl
@[simp] theorem putManifest_manifests (s : State) (d : DoorId) (m : List Departure) : (s.putManifest d m).manifests = s.manifests.put d m := rfl
@[simp] theorem putManifest_alarms (s : State) (d : DoorId) (m : List Departure) : (s.putManifest d m).alarms = s.alarms := rfl
@[simp] theorem putManifest_ports (s : State) (d : DoorId) (m : List Departure) : (s.putManifest d m).ports = s.ports := rfl
@[simp] theorem putManifest_profile (s : State) (d : DoorId) (m : List Departure) : (s.putManifest d m).profile = s.profile := rfl
@[simp] theorem putManifest_store (s : State) (d : DoorId) (m : List Departure) : (s.putManifest d m).store = s.store := rfl

@[simp] theorem putStation_pending (s : State) (d : DoorId) (e : Station) : (s.putStation d e).pending = s.pending := rfl
@[simp] theorem putStation_power (s : State) (d : DoorId) (e : Station) : (s.putStation d e).power = s.power := rfl
@[simp] theorem putStation_marker (s : State) (d : DoorId) (e : Station) : (s.putStation d e).marker = s.marker := rfl
@[simp] theorem putStation_clock (s : State) (d : DoorId) (e : Station) : (s.putStation d e).clock = s.clock := rfl
@[simp] theorem putStation_clockValid (s : State) (d : DoorId) (e : Station) : (s.putStation d e).clockValid = s.clockValid := rfl
@[simp] theorem putStation_report (s : State) (d : DoorId) (e : Station) : (s.putStation d e).report = s.report := rfl
@[simp] theorem putStation_converter (s : State) (d : DoorId) (e : Station) : (s.putStation d e).converter = s.converter := rfl
@[simp] theorem putStation_zones (s : State) (d : DoorId) (e : Station) : (s.putStation d e).zones = s.zones := rfl
@[simp] theorem putStation_exposure (s : State) (d : DoorId) (e : Station) : (s.putStation d e).exposure = s.exposure := rfl
@[simp] theorem putStation_pallets (s : State) (d : DoorId) (e : Station) : (s.putStation d e).pallets = s.pallets := rfl
@[simp] theorem putStation_lanes (s : State) (d : DoorId) (e : Station) : (s.putStation d e).lanes = s.lanes := rfl
@[simp] theorem putStation_doors (s : State) (d : DoorId) (e : Station) : (s.putStation d e).doors = s.doors := rfl
@[simp] theorem putStation_waits (s : State) (d : DoorId) (e : Station) : (s.putStation d e).waits = s.waits := rfl
@[simp] theorem putStation_loop (s : State) (d : DoorId) (e : Station) : (s.putStation d e).loop = { s.loop with stations := s.loop.stations.put d e } := rfl
@[simp] theorem putStation_units (s : State) (d : DoorId) (e : Station) : (s.putStation d e).units = s.units := rfl
@[simp] theorem putStation_defrostQueue (s : State) (d : DoorId) (e : Station) : (s.putStation d e).defrostQueue = s.defrostQueue := rfl
@[simp] theorem putStation_manifests (s : State) (d : DoorId) (e : Station) : (s.putStation d e).manifests = s.manifests := rfl
@[simp] theorem putStation_alarms (s : State) (d : DoorId) (e : Station) : (s.putStation d e).alarms = s.alarms := rfl
@[simp] theorem putStation_ports (s : State) (d : DoorId) (e : Station) : (s.putStation d e).ports = s.ports := rfl
@[simp] theorem putStation_profile (s : State) (d : DoorId) (e : Station) : (s.putStation d e).profile = s.profile := rfl
@[simp] theorem putStation_store (s : State) (d : DoorId) (e : Station) : (s.putStation d e).store = s.store := rfl

@[simp] theorem putPort_pending (s : State) (p : Port) (r : PortRecord) : (s.putPort p r).pending = s.pending := rfl
@[simp] theorem putPort_power (s : State) (p : Port) (r : PortRecord) : (s.putPort p r).power = s.power := rfl
@[simp] theorem putPort_marker (s : State) (p : Port) (r : PortRecord) : (s.putPort p r).marker = s.marker := rfl
@[simp] theorem putPort_clock (s : State) (p : Port) (r : PortRecord) : (s.putPort p r).clock = s.clock := rfl
@[simp] theorem putPort_clockValid (s : State) (p : Port) (r : PortRecord) : (s.putPort p r).clockValid = s.clockValid := rfl
@[simp] theorem putPort_report (s : State) (p : Port) (r : PortRecord) : (s.putPort p r).report = s.report := rfl
@[simp] theorem putPort_converter (s : State) (p : Port) (r : PortRecord) : (s.putPort p r).converter = s.converter := rfl
@[simp] theorem putPort_zones (s : State) (p : Port) (r : PortRecord) : (s.putPort p r).zones = s.zones := rfl
@[simp] theorem putPort_exposure (s : State) (p : Port) (r : PortRecord) : (s.putPort p r).exposure = s.exposure := rfl
@[simp] theorem putPort_pallets (s : State) (p : Port) (r : PortRecord) : (s.putPort p r).pallets = s.pallets := rfl
@[simp] theorem putPort_lanes (s : State) (p : Port) (r : PortRecord) : (s.putPort p r).lanes = s.lanes := rfl
@[simp] theorem putPort_doors (s : State) (p : Port) (r : PortRecord) : (s.putPort p r).doors = s.doors := rfl
@[simp] theorem putPort_waits (s : State) (p : Port) (r : PortRecord) : (s.putPort p r).waits = s.waits := rfl
@[simp] theorem putPort_loop (s : State) (p : Port) (r : PortRecord) : (s.putPort p r).loop = s.loop := rfl
@[simp] theorem putPort_units (s : State) (p : Port) (r : PortRecord) : (s.putPort p r).units = s.units := rfl
@[simp] theorem putPort_defrostQueue (s : State) (p : Port) (r : PortRecord) : (s.putPort p r).defrostQueue = s.defrostQueue := rfl
@[simp] theorem putPort_manifests (s : State) (p : Port) (r : PortRecord) : (s.putPort p r).manifests = s.manifests := rfl
@[simp] theorem putPort_alarms (s : State) (p : Port) (r : PortRecord) : (s.putPort p r).alarms = s.alarms := rfl
@[simp] theorem putPort_ports (s : State) (p : Port) (r : PortRecord) : (s.putPort p r).ports = s.ports.put p r := rfl
@[simp] theorem putPort_profile (s : State) (p : Port) (r : PortRecord) : (s.putPort p r).profile = s.profile := rfl
@[simp] theorem putPort_store (s : State) (p : Port) (r : PortRecord) : (s.putPort p r).store = s.store := rfl

@[simp] theorem modDoor_pending (s : State) (d : DoorId) (f : DoorRecord → DoorRecord) : (s.modDoor d f).pending = s.pending := rfl
@[simp] theorem modDoor_power (s : State) (d : DoorId) (f : DoorRecord → DoorRecord) : (s.modDoor d f).power = s.power := rfl
@[simp] theorem modDoor_marker (s : State) (d : DoorId) (f : DoorRecord → DoorRecord) : (s.modDoor d f).marker = s.marker := rfl
@[simp] theorem modDoor_clock (s : State) (d : DoorId) (f : DoorRecord → DoorRecord) : (s.modDoor d f).clock = s.clock := rfl
@[simp] theorem modDoor_clockValid (s : State) (d : DoorId) (f : DoorRecord → DoorRecord) : (s.modDoor d f).clockValid = s.clockValid := rfl
@[simp] theorem modDoor_report (s : State) (d : DoorId) (f : DoorRecord → DoorRecord) : (s.modDoor d f).report = s.report := rfl
@[simp] theorem modDoor_converter (s : State) (d : DoorId) (f : DoorRecord → DoorRecord) : (s.modDoor d f).converter = s.converter := rfl
@[simp] theorem modDoor_zones (s : State) (d : DoorId) (f : DoorRecord → DoorRecord) : (s.modDoor d f).zones = s.zones := rfl
@[simp] theorem modDoor_exposure (s : State) (d : DoorId) (f : DoorRecord → DoorRecord) : (s.modDoor d f).exposure = s.exposure := rfl
@[simp] theorem modDoor_pallets (s : State) (d : DoorId) (f : DoorRecord → DoorRecord) : (s.modDoor d f).pallets = s.pallets := rfl
@[simp] theorem modDoor_lanes (s : State) (d : DoorId) (f : DoorRecord → DoorRecord) : (s.modDoor d f).lanes = s.lanes := rfl
@[simp] theorem modDoor_doors (s : State) (d : DoorId) (f : DoorRecord → DoorRecord) : (s.modDoor d f).doors = s.doors.put d (f (s.doors.get d)) := rfl
@[simp] theorem modDoor_waits (s : State) (d : DoorId) (f : DoorRecord → DoorRecord) : (s.modDoor d f).waits = s.waits := rfl
@[simp] theorem modDoor_loop (s : State) (d : DoorId) (f : DoorRecord → DoorRecord) : (s.modDoor d f).loop = s.loop := rfl
@[simp] theorem modDoor_units (s : State) (d : DoorId) (f : DoorRecord → DoorRecord) : (s.modDoor d f).units = s.units := rfl
@[simp] theorem modDoor_defrostQueue (s : State) (d : DoorId) (f : DoorRecord → DoorRecord) : (s.modDoor d f).defrostQueue = s.defrostQueue := rfl
@[simp] theorem modDoor_manifests (s : State) (d : DoorId) (f : DoorRecord → DoorRecord) : (s.modDoor d f).manifests = s.manifests := rfl
@[simp] theorem modDoor_alarms (s : State) (d : DoorId) (f : DoorRecord → DoorRecord) : (s.modDoor d f).alarms = s.alarms := rfl
@[simp] theorem modDoor_ports (s : State) (d : DoorId) (f : DoorRecord → DoorRecord) : (s.modDoor d f).ports = s.ports := rfl
@[simp] theorem modDoor_profile (s : State) (d : DoorId) (f : DoorRecord → DoorRecord) : (s.modDoor d f).profile = s.profile := rfl
@[simp] theorem modDoor_store (s : State) (d : DoorId) (f : DoorRecord → DoorRecord) : (s.modDoor d f).store = s.store := rfl

@[simp] theorem modUnit_pending (s : State) (z : ZoneId) (f : DefrostUnit → DefrostUnit) : (s.modUnit z f).pending = s.pending := rfl
@[simp] theorem modUnit_power (s : State) (z : ZoneId) (f : DefrostUnit → DefrostUnit) : (s.modUnit z f).power = s.power := rfl
@[simp] theorem modUnit_marker (s : State) (z : ZoneId) (f : DefrostUnit → DefrostUnit) : (s.modUnit z f).marker = s.marker := rfl
@[simp] theorem modUnit_clock (s : State) (z : ZoneId) (f : DefrostUnit → DefrostUnit) : (s.modUnit z f).clock = s.clock := rfl
@[simp] theorem modUnit_clockValid (s : State) (z : ZoneId) (f : DefrostUnit → DefrostUnit) : (s.modUnit z f).clockValid = s.clockValid := rfl
@[simp] theorem modUnit_report (s : State) (z : ZoneId) (f : DefrostUnit → DefrostUnit) : (s.modUnit z f).report = s.report := rfl
@[simp] theorem modUnit_converter (s : State) (z : ZoneId) (f : DefrostUnit → DefrostUnit) : (s.modUnit z f).converter = s.converter := rfl
@[simp] theorem modUnit_zones (s : State) (z : ZoneId) (f : DefrostUnit → DefrostUnit) : (s.modUnit z f).zones = s.zones := rfl
@[simp] theorem modUnit_exposure (s : State) (z : ZoneId) (f : DefrostUnit → DefrostUnit) : (s.modUnit z f).exposure = s.exposure := rfl
@[simp] theorem modUnit_pallets (s : State) (z : ZoneId) (f : DefrostUnit → DefrostUnit) : (s.modUnit z f).pallets = s.pallets := rfl
@[simp] theorem modUnit_lanes (s : State) (z : ZoneId) (f : DefrostUnit → DefrostUnit) : (s.modUnit z f).lanes = s.lanes := rfl
@[simp] theorem modUnit_doors (s : State) (z : ZoneId) (f : DefrostUnit → DefrostUnit) : (s.modUnit z f).doors = s.doors := rfl
@[simp] theorem modUnit_waits (s : State) (z : ZoneId) (f : DefrostUnit → DefrostUnit) : (s.modUnit z f).waits = s.waits := rfl
@[simp] theorem modUnit_loop (s : State) (z : ZoneId) (f : DefrostUnit → DefrostUnit) : (s.modUnit z f).loop = s.loop := rfl
@[simp] theorem modUnit_units (s : State) (z : ZoneId) (f : DefrostUnit → DefrostUnit) : (s.modUnit z f).units = s.units.put z (f (s.units.get z)) := rfl
@[simp] theorem modUnit_defrostQueue (s : State) (z : ZoneId) (f : DefrostUnit → DefrostUnit) : (s.modUnit z f).defrostQueue = s.defrostQueue := rfl
@[simp] theorem modUnit_manifests (s : State) (z : ZoneId) (f : DefrostUnit → DefrostUnit) : (s.modUnit z f).manifests = s.manifests := rfl
@[simp] theorem modUnit_alarms (s : State) (z : ZoneId) (f : DefrostUnit → DefrostUnit) : (s.modUnit z f).alarms = s.alarms := rfl
@[simp] theorem modUnit_ports (s : State) (z : ZoneId) (f : DefrostUnit → DefrostUnit) : (s.modUnit z f).ports = s.ports := rfl
@[simp] theorem modUnit_profile (s : State) (z : ZoneId) (f : DefrostUnit → DefrostUnit) : (s.modUnit z f).profile = s.profile := rfl
@[simp] theorem modUnit_store (s : State) (z : ZoneId) (f : DefrostUnit → DefrostUnit) : (s.modUnit z f).store = s.store := rfl

@[simp] theorem modPort_pending (s : State) (p : Port) (f : PortRecord → PortRecord) : (s.modPort p f).pending = s.pending := rfl
@[simp] theorem modPort_power (s : State) (p : Port) (f : PortRecord → PortRecord) : (s.modPort p f).power = s.power := rfl
@[simp] theorem modPort_marker (s : State) (p : Port) (f : PortRecord → PortRecord) : (s.modPort p f).marker = s.marker := rfl
@[simp] theorem modPort_clock (s : State) (p : Port) (f : PortRecord → PortRecord) : (s.modPort p f).clock = s.clock := rfl
@[simp] theorem modPort_clockValid (s : State) (p : Port) (f : PortRecord → PortRecord) : (s.modPort p f).clockValid = s.clockValid := rfl
@[simp] theorem modPort_report (s : State) (p : Port) (f : PortRecord → PortRecord) : (s.modPort p f).report = s.report := rfl
@[simp] theorem modPort_converter (s : State) (p : Port) (f : PortRecord → PortRecord) : (s.modPort p f).converter = s.converter := rfl
@[simp] theorem modPort_zones (s : State) (p : Port) (f : PortRecord → PortRecord) : (s.modPort p f).zones = s.zones := rfl
@[simp] theorem modPort_exposure (s : State) (p : Port) (f : PortRecord → PortRecord) : (s.modPort p f).exposure = s.exposure := rfl
@[simp] theorem modPort_pallets (s : State) (p : Port) (f : PortRecord → PortRecord) : (s.modPort p f).pallets = s.pallets := rfl
@[simp] theorem modPort_lanes (s : State) (p : Port) (f : PortRecord → PortRecord) : (s.modPort p f).lanes = s.lanes := rfl
@[simp] theorem modPort_doors (s : State) (p : Port) (f : PortRecord → PortRecord) : (s.modPort p f).doors = s.doors := rfl
@[simp] theorem modPort_waits (s : State) (p : Port) (f : PortRecord → PortRecord) : (s.modPort p f).waits = s.waits := rfl
@[simp] theorem modPort_loop (s : State) (p : Port) (f : PortRecord → PortRecord) : (s.modPort p f).loop = s.loop := rfl
@[simp] theorem modPort_units (s : State) (p : Port) (f : PortRecord → PortRecord) : (s.modPort p f).units = s.units := rfl
@[simp] theorem modPort_defrostQueue (s : State) (p : Port) (f : PortRecord → PortRecord) : (s.modPort p f).defrostQueue = s.defrostQueue := rfl
@[simp] theorem modPort_manifests (s : State) (p : Port) (f : PortRecord → PortRecord) : (s.modPort p f).manifests = s.manifests := rfl
@[simp] theorem modPort_alarms (s : State) (p : Port) (f : PortRecord → PortRecord) : (s.modPort p f).alarms = s.alarms := rfl
@[simp] theorem modPort_ports (s : State) (p : Port) (f : PortRecord → PortRecord) : (s.modPort p f).ports = s.ports.put p (f (s.port p)) := rfl
@[simp] theorem modPort_profile (s : State) (p : Port) (f : PortRecord → PortRecord) : (s.modPort p f).profile = s.profile := rfl
@[simp] theorem modPort_store (s : State) (p : Port) (f : PortRecord → PortRecord) : (s.modPort p f).store = s.store := rfl

/-! ## Equality of states -/

/-- Two states are equal when every field is. -/
theorem state_eq {s t : State}
    (h0 : s.pending = t.pending)
    (h1 : s.power = t.power)
    (h2 : s.marker = t.marker)
    (h3 : s.clock = t.clock)
    (h4 : s.clockValid = t.clockValid)
    (h5 : s.report = t.report)
    (h6 : s.converter = t.converter)
    (h7 : s.zones = t.zones)
    (h8 : s.exposure = t.exposure)
    (h9 : s.pallets = t.pallets)
    (h10 : s.lanes = t.lanes)
    (h11 : s.doors = t.doors)
    (h12 : s.waits = t.waits)
    (h13 : s.loop = t.loop)
    (h14 : s.units = t.units)
    (h15 : s.defrostQueue = t.defrostQueue)
    (h16 : s.manifests = t.manifests)
    (h17 : s.alarms = t.alarms)
    (h18 : s.ports = t.ports)
    (h19 : s.profile = t.profile)
    (h20 : s.store = t.store) : s = t := by
  cases s; cases t; simp_all

/-! ## Banks and ports -/

@[simp] theorem bank_get_put_same {α : Type} {n : Nat} (b : Bank α n) (i : Fin n) (x : α) : (b.put i x).get i = x := by
  change (b.cells.set i.val x i.isLt)[i.val] = x
  simp

theorem bank_get_put_other {α : Type} {n : Nat} (b : Bank α n) (i j : Fin n) (x : α) (h : i ≠ j) :
    (b.put i x).get j = b.get j := by
  have h' : i.val ≠ j.val := fun e => h (Fin.ext e)
  change (b.cells.set i.val x i.isLt)[j.val] = b.cells[j.val]
  simp [h']

theorem bank_get_put {α : Type} {n : Nat} (b : Bank α n) (i j : Fin n) (x : α) :
    (b.put i x).get j = if i = j then x else b.get j := by
  by_cases h : i = j
  · subst h; simp
  · simp [h, bank_get_put_other b i j x h]

@[simp] theorem bank_get_ofFn {α : Type} {n : Nat} (f : Fin n → α) (i : Fin n) : (Bank.ofFn f).get i = f i := by
  change (Vector.ofFn f)[i.val] = f i
  simp

@[simp] theorem bank_get_fill {α : Type} {n : Nat} (x : α) (i : Fin n) : (Bank.fill x : Bank α n).get i = x := by
  change (Vector.replicate n x)[i.val] = x
  simp

@[simp] theorem bank_get_map {α β : Type} {n : Nat} (f : α → β) (b : Bank α n) (i : Fin n) : (b.map f).get i = f (b.get i) := by
  simp [Bank.map]

@[simp] theorem ports_get_put_same (ps : Ports) (p : Port) (r : PortRecord) : (ps.put p r).get p = r := by cases p <;> rfl

theorem ports_get_put (ps : Ports) (p q : Port) (r : PortRecord) :
    (ps.put p r).get q = if p = q then r else ps.get q := by cases p <;> cases q <;> rfl

@[simp] theorem ports_get_map (f : PortRecord → PortRecord) (ps : Ports) (p : Port) : (ps.map f).get p = f (ps.get p) := by
  cases p <;> rfl

end Sys2Proof.Machine
end

