-- ==== Sys2Proof/Laws/Frames.lean ====
section
/-! SUPPORT. What each shared operation leaves alone: posting, raising and clearing, taking and answering a frame, entering OPEN, the queue
service, the grant judgment and `settle`. -/

namespace Sys2Proof.Machine

@[simp] theorem post_pending (k : NoticeKind) (s : State) : (post k s).pending = s.pending := rfl
@[simp] theorem post_power (k : NoticeKind) (s : State) : (post k s).power = s.power := rfl
@[simp] theorem post_marker (k : NoticeKind) (s : State) : (post k s).marker = s.marker := rfl
@[simp] theorem post_clock (k : NoticeKind) (s : State) : (post k s).clock = s.clock := rfl
@[simp] theorem post_clockValid (k : NoticeKind) (s : State) : (post k s).clockValid = s.clockValid := rfl
@[simp] theorem post_report (k : NoticeKind) (s : State) : (post k s).report = s.report := rfl
@[simp] theorem post_converter (k : NoticeKind) (s : State) : (post k s).converter = s.converter := rfl
@[simp] theorem post_zones (k : NoticeKind) (s : State) : (post k s).zones = s.zones := rfl
@[simp] theorem post_exposure (k : NoticeKind) (s : State) : (post k s).exposure = s.exposure := rfl
@[simp] theorem post_pallets (k : NoticeKind) (s : State) : (post k s).pallets = s.pallets := rfl
@[simp] theorem post_lanes (k : NoticeKind) (s : State) : (post k s).lanes = s.lanes := rfl
@[simp] theorem post_doors (k : NoticeKind) (s : State) : (post k s).doors = s.doors := rfl
@[simp] theorem post_waits (k : NoticeKind) (s : State) : (post k s).waits = s.waits := rfl
@[simp] theorem post_loop (k : NoticeKind) (s : State) : (post k s).loop = s.loop := rfl
@[simp] theorem post_units (k : NoticeKind) (s : State) : (post k s).units = s.units := rfl
@[simp] theorem post_defrostQueue (k : NoticeKind) (s : State) : (post k s).defrostQueue = s.defrostQueue := rfl
@[simp] theorem post_manifests (k : NoticeKind) (s : State) : (post k s).manifests = s.manifests := rfl
@[simp] theorem post_alarms (k : NoticeKind) (s : State) : (post k s).alarms = s.alarms := rfl
@[simp] theorem post_profile (k : NoticeKind) (s : State) : (post k s).profile = s.profile := rfl
@[simp] theorem post_store (k : NoticeKind) (s : State) : (post k s).store = s.store := rfl

@[simp] theorem postIf_pending (b : Bool) (k : NoticeKind) (s : State) : (postIf b k s).pending = s.pending := by cases b <;> rfl
@[simp] theorem postIf_power (b : Bool) (k : NoticeKind) (s : State) : (postIf b k s).power = s.power := by cases b <;> rfl
@[simp] theorem postIf_marker (b : Bool) (k : NoticeKind) (s : State) : (postIf b k s).marker = s.marker := by cases b <;> rfl
@[simp] theorem postIf_clock (b : Bool) (k : NoticeKind) (s : State) : (postIf b k s).clock = s.clock := by cases b <;> rfl
@[simp] theorem postIf_clockValid (b : Bool) (k : NoticeKind) (s : State) : (postIf b k s).clockValid = s.clockValid := by cases b <;> rfl
@[simp] theorem postIf_report (b : Bool) (k : NoticeKind) (s : State) : (postIf b k s).report = s.report := by cases b <;> rfl
@[simp] theorem postIf_converter (b : Bool) (k : NoticeKind) (s : State) : (postIf b k s).converter = s.converter := by cases b <;> rfl
@[simp] theorem postIf_zones (b : Bool) (k : NoticeKind) (s : State) : (postIf b k s).zones = s.zones := by cases b <;> rfl
@[simp] theorem postIf_exposure (b : Bool) (k : NoticeKind) (s : State) : (postIf b k s).exposure = s.exposure := by cases b <;> rfl
@[simp] theorem postIf_pallets (b : Bool) (k : NoticeKind) (s : State) : (postIf b k s).pallets = s.pallets := by cases b <;> rfl
@[simp] theorem postIf_lanes (b : Bool) (k : NoticeKind) (s : State) : (postIf b k s).lanes = s.lanes := by cases b <;> rfl
@[simp] theorem postIf_doors (b : Bool) (k : NoticeKind) (s : State) : (postIf b k s).doors = s.doors := by cases b <;> rfl
@[simp] theorem postIf_waits (b : Bool) (k : NoticeKind) (s : State) : (postIf b k s).waits = s.waits := by cases b <;> rfl
@[simp] theorem postIf_loop (b : Bool) (k : NoticeKind) (s : State) : (postIf b k s).loop = s.loop := by cases b <;> rfl
@[simp] theorem postIf_units (b : Bool) (k : NoticeKind) (s : State) : (postIf b k s).units = s.units := by cases b <;> rfl
@[simp] theorem postIf_defrostQueue (b : Bool) (k : NoticeKind) (s : State) : (postIf b k s).defrostQueue = s.defrostQueue := by cases b <;> rfl
@[simp] theorem postIf_manifests (b : Bool) (k : NoticeKind) (s : State) : (postIf b k s).manifests = s.manifests := by cases b <;> rfl
@[simp] theorem postIf_alarms (b : Bool) (k : NoticeKind) (s : State) : (postIf b k s).alarms = s.alarms := by cases b <;> rfl
@[simp] theorem postIf_profile (b : Bool) (k : NoticeKind) (s : State) : (postIf b k s).profile = s.profile := by cases b <;> rfl
@[simp] theorem postIf_store (b : Bool) (k : NoticeKind) (s : State) : (postIf b k s).store = s.store := by cases b <;> rfl

@[simp] theorem commitAlarms_pending (r : AlarmList × Bool) (s : State) : (commitAlarms r s).pending = s.pending := by unfold commitAlarms; split <;> rfl
@[simp] theorem commitAlarms_power (r : AlarmList × Bool) (s : State) : (commitAlarms r s).power = s.power := by unfold commitAlarms; split <;> rfl
@[simp] theorem commitAlarms_marker (r : AlarmList × Bool) (s : State) : (commitAlarms r s).marker = s.marker := by unfold commitAlarms; split <;> rfl
@[simp] theorem commitAlarms_clock (r : AlarmList × Bool) (s : State) : (commitAlarms r s).clock = s.clock := by unfold commitAlarms; split <;> rfl
@[simp] theorem commitAlarms_clockValid (r : AlarmList × Bool) (s : State) : (commitAlarms r s).clockValid = s.clockValid := by unfold commitAlarms; split <;> rfl
@[simp] theorem commitAlarms_report (r : AlarmList × Bool) (s : State) : (commitAlarms r s).report = s.report := by unfold commitAlarms; split <;> rfl
@[simp] theorem commitAlarms_converter (r : AlarmList × Bool) (s : State) : (commitAlarms r s).converter = s.converter := by unfold commitAlarms; split <;> rfl
@[simp] theorem commitAlarms_zones (r : AlarmList × Bool) (s : State) : (commitAlarms r s).zones = s.zones := by unfold commitAlarms; split <;> rfl
@[simp] theorem commitAlarms_exposure (r : AlarmList × Bool) (s : State) : (commitAlarms r s).exposure = s.exposure := by unfold commitAlarms; split <;> rfl
@[simp] theorem commitAlarms_pallets (r : AlarmList × Bool) (s : State) : (commitAlarms r s).pallets = s.pallets := by unfold commitAlarms; split <;> rfl
@[simp] theorem commitAlarms_lanes (r : AlarmList × Bool) (s : State) : (commitAlarms r s).lanes = s.lanes := by unfold commitAlarms; split <;> rfl
@[simp] theorem commitAlarms_doors (r : AlarmList × Bool) (s : State) : (commitAlarms r s).doors = s.doors := by unfold commitAlarms; split <;> rfl
@[simp] theorem commitAlarms_waits (r : AlarmList × Bool) (s : State) : (commitAlarms r s).waits = s.waits := by unfold commitAlarms; split <;> rfl
@[simp] theorem commitAlarms_loop (r : AlarmList × Bool) (s : State) : (commitAlarms r s).loop = s.loop := by unfold commitAlarms; split <;> rfl
@[simp] theorem commitAlarms_units (r : AlarmList × Bool) (s : State) : (commitAlarms r s).units = s.units := by unfold commitAlarms; split <;> rfl
@[simp] theorem commitAlarms_defrostQueue (r : AlarmList × Bool) (s : State) : (commitAlarms r s).defrostQueue = s.defrostQueue := by unfold commitAlarms; split <;> rfl
@[simp] theorem commitAlarms_manifests (r : AlarmList × Bool) (s : State) : (commitAlarms r s).manifests = s.manifests := by unfold commitAlarms; split <;> rfl
@[simp] theorem commitAlarms_profile (r : AlarmList × Bool) (s : State) : (commitAlarms r s).profile = s.profile := by unfold commitAlarms; split <;> rfl
@[simp] theorem commitAlarms_store (r : AlarmList × Bool) (s : State) : (commitAlarms r s).store = s.store := by unfold commitAlarms; split <;> rfl

@[simp] theorem raise_pending (k : AlarmKind) (sub : Subject) (s : State) : (raise k sub s).pending = s.pending := commitAlarms_pending _ s
@[simp] theorem raise_power (k : AlarmKind) (sub : Subject) (s : State) : (raise k sub s).power = s.power := commitAlarms_power _ s
@[simp] theorem raise_marker (k : AlarmKind) (sub : Subject) (s : State) : (raise k sub s).marker = s.marker := commitAlarms_marker _ s
@[simp] theorem raise_clock (k : AlarmKind) (sub : Subject) (s : State) : (raise k sub s).clock = s.clock := commitAlarms_clock _ s
@[simp] theorem raise_clockValid (k : AlarmKind) (sub : Subject) (s : State) : (raise k sub s).clockValid = s.clockValid := commitAlarms_clockValid _ s
@[simp] theorem raise_report (k : AlarmKind) (sub : Subject) (s : State) : (raise k sub s).report = s.report := commitAlarms_report _ s
@[simp] theorem raise_converter (k : AlarmKind) (sub : Subject) (s : State) : (raise k sub s).converter = s.converter := commitAlarms_converter _ s
@[simp] theorem raise_zones (k : AlarmKind) (sub : Subject) (s : State) : (raise k sub s).zones = s.zones := commitAlarms_zones _ s
@[simp] theorem raise_exposure (k : AlarmKind) (sub : Subject) (s : State) : (raise k sub s).exposure = s.exposure := commitAlarms_exposure _ s
@[simp] theorem raise_pallets (k : AlarmKind) (sub : Subject) (s : State) : (raise k sub s).pallets = s.pallets := commitAlarms_pallets _ s
@[simp] theorem raise_lanes (k : AlarmKind) (sub : Subject) (s : State) : (raise k sub s).lanes = s.lanes := commitAlarms_lanes _ s
@[simp] theorem raise_doors (k : AlarmKind) (sub : Subject) (s : State) : (raise k sub s).doors = s.doors := commitAlarms_doors _ s
@[simp] theorem raise_waits (k : AlarmKind) (sub : Subject) (s : State) : (raise k sub s).waits = s.waits := commitAlarms_waits _ s
@[simp] theorem raise_loop (k : AlarmKind) (sub : Subject) (s : State) : (raise k sub s).loop = s.loop := commitAlarms_loop _ s
@[simp] theorem raise_units (k : AlarmKind) (sub : Subject) (s : State) : (raise k sub s).units = s.units := commitAlarms_units _ s
@[simp] theorem raise_defrostQueue (k : AlarmKind) (sub : Subject) (s : State) : (raise k sub s).defrostQueue = s.defrostQueue := commitAlarms_defrostQueue _ s
@[simp] theorem raise_manifests (k : AlarmKind) (sub : Subject) (s : State) : (raise k sub s).manifests = s.manifests := commitAlarms_manifests _ s
@[simp] theorem raise_profile (k : AlarmKind) (sub : Subject) (s : State) : (raise k sub s).profile = s.profile := commitAlarms_profile _ s
@[simp] theorem raise_store (k : AlarmKind) (sub : Subject) (s : State) : (raise k sub s).store = s.store := commitAlarms_store _ s

@[simp] theorem clear_pending (k : AlarmKind) (sub : Subject) (s : State) : (clear k sub s).pending = s.pending := commitAlarms_pending _ s
@[simp] theorem clear_power (k : AlarmKind) (sub : Subject) (s : State) : (clear k sub s).power = s.power := commitAlarms_power _ s
@[simp] theorem clear_marker (k : AlarmKind) (sub : Subject) (s : State) : (clear k sub s).marker = s.marker := commitAlarms_marker _ s
@[simp] theorem clear_clock (k : AlarmKind) (sub : Subject) (s : State) : (clear k sub s).clock = s.clock := commitAlarms_clock _ s
@[simp] theorem clear_clockValid (k : AlarmKind) (sub : Subject) (s : State) : (clear k sub s).clockValid = s.clockValid := commitAlarms_clockValid _ s
@[simp] theorem clear_report (k : AlarmKind) (sub : Subject) (s : State) : (clear k sub s).report = s.report := commitAlarms_report _ s
@[simp] theorem clear_converter (k : AlarmKind) (sub : Subject) (s : State) : (clear k sub s).converter = s.converter := commitAlarms_converter _ s
@[simp] theorem clear_zones (k : AlarmKind) (sub : Subject) (s : State) : (clear k sub s).zones = s.zones := commitAlarms_zones _ s
@[simp] theorem clear_exposure (k : AlarmKind) (sub : Subject) (s : State) : (clear k sub s).exposure = s.exposure := commitAlarms_exposure _ s
@[simp] theorem clear_pallets (k : AlarmKind) (sub : Subject) (s : State) : (clear k sub s).pallets = s.pallets := commitAlarms_pallets _ s
@[simp] theorem clear_lanes (k : AlarmKind) (sub : Subject) (s : State) : (clear k sub s).lanes = s.lanes := commitAlarms_lanes _ s
@[simp] theorem clear_doors (k : AlarmKind) (sub : Subject) (s : State) : (clear k sub s).doors = s.doors := commitAlarms_doors _ s
@[simp] theorem clear_waits (k : AlarmKind) (sub : Subject) (s : State) : (clear k sub s).waits = s.waits := commitAlarms_waits _ s
@[simp] theorem clear_loop (k : AlarmKind) (sub : Subject) (s : State) : (clear k sub s).loop = s.loop := commitAlarms_loop _ s
@[simp] theorem clear_units (k : AlarmKind) (sub : Subject) (s : State) : (clear k sub s).units = s.units := commitAlarms_units _ s
@[simp] theorem clear_defrostQueue (k : AlarmKind) (sub : Subject) (s : State) : (clear k sub s).defrostQueue = s.defrostQueue := commitAlarms_defrostQueue _ s
@[simp] theorem clear_manifests (k : AlarmKind) (sub : Subject) (s : State) : (clear k sub s).manifests = s.manifests := commitAlarms_manifests _ s
@[simp] theorem clear_profile (k : AlarmKind) (sub : Subject) (s : State) : (clear k sub s).profile = s.profile := commitAlarms_profile _ s
@[simp] theorem clear_store (k : AlarmKind) (sub : Subject) (s : State) : (clear k sub s).store = s.store := commitAlarms_store _ s

@[simp] theorem takeFrame_pending (p : Port) (s : State) : (takeFrame p s).pending = s.pending := by unfold takeFrame; split <;> simp
@[simp] theorem takeFrame_power (p : Port) (s : State) : (takeFrame p s).power = s.power := by unfold takeFrame; split <;> simp
@[simp] theorem takeFrame_marker (p : Port) (s : State) : (takeFrame p s).marker = s.marker := by unfold takeFrame; split <;> simp
@[simp] theorem takeFrame_clock (p : Port) (s : State) : (takeFrame p s).clock = s.clock := by unfold takeFrame; split <;> simp
@[simp] theorem takeFrame_clockValid (p : Port) (s : State) : (takeFrame p s).clockValid = s.clockValid := by unfold takeFrame; split <;> simp
@[simp] theorem takeFrame_report (p : Port) (s : State) : (takeFrame p s).report = s.report := by unfold takeFrame; split <;> simp
@[simp] theorem takeFrame_converter (p : Port) (s : State) : (takeFrame p s).converter = s.converter := by unfold takeFrame; split <;> simp
@[simp] theorem takeFrame_zones (p : Port) (s : State) : (takeFrame p s).zones = s.zones := by unfold takeFrame; split <;> simp
@[simp] theorem takeFrame_exposure (p : Port) (s : State) : (takeFrame p s).exposure = s.exposure := by unfold takeFrame; split <;> simp
@[simp] theorem takeFrame_pallets (p : Port) (s : State) : (takeFrame p s).pallets = s.pallets := by unfold takeFrame; split <;> simp
@[simp] theorem takeFrame_lanes (p : Port) (s : State) : (takeFrame p s).lanes = s.lanes := by unfold takeFrame; split <;> simp
@[simp] theorem takeFrame_doors (p : Port) (s : State) : (takeFrame p s).doors = s.doors := by unfold takeFrame; split <;> simp
@[simp] theorem takeFrame_waits (p : Port) (s : State) : (takeFrame p s).waits = s.waits := by unfold takeFrame; split <;> simp
@[simp] theorem takeFrame_loop (p : Port) (s : State) : (takeFrame p s).loop = s.loop := by unfold takeFrame; split <;> simp
@[simp] theorem takeFrame_units (p : Port) (s : State) : (takeFrame p s).units = s.units := by unfold takeFrame; split <;> simp
@[simp] theorem takeFrame_defrostQueue (p : Port) (s : State) : (takeFrame p s).defrostQueue = s.defrostQueue := by unfold takeFrame; split <;> simp
@[simp] theorem takeFrame_manifests (p : Port) (s : State) : (takeFrame p s).manifests = s.manifests := by unfold takeFrame; split <;> simp
@[simp] theorem takeFrame_profile (p : Port) (s : State) : (takeFrame p s).profile = s.profile := by unfold takeFrame; split <;> simp
@[simp] theorem takeFrame_store (p : Port) (s : State) : (takeFrame p s).store = s.store := by unfold takeFrame; split <;> simp

@[simp] theorem respond_pending (p : Port) (c : Byte) (a : Answer) (s : State) : (respond p c a s).pending = s.pending := rfl
@[simp] theorem respond_power (p : Port) (c : Byte) (a : Answer) (s : State) : (respond p c a s).power = s.power := rfl
@[simp] theorem respond_marker (p : Port) (c : Byte) (a : Answer) (s : State) : (respond p c a s).marker = s.marker := rfl
@[simp] theorem respond_clock (p : Port) (c : Byte) (a : Answer) (s : State) : (respond p c a s).clock = s.clock := rfl
@[simp] theorem respond_clockValid (p : Port) (c : Byte) (a : Answer) (s : State) : (respond p c a s).clockValid = s.clockValid := rfl
@[simp] theorem respond_report (p : Port) (c : Byte) (a : Answer) (s : State) : (respond p c a s).report = s.report := rfl
@[simp] theorem respond_converter (p : Port) (c : Byte) (a : Answer) (s : State) : (respond p c a s).converter = s.converter := rfl
@[simp] theorem respond_zones (p : Port) (c : Byte) (a : Answer) (s : State) : (respond p c a s).zones = s.zones := rfl
@[simp] theorem respond_exposure (p : Port) (c : Byte) (a : Answer) (s : State) : (respond p c a s).exposure = s.exposure := rfl
@[simp] theorem respond_pallets (p : Port) (c : Byte) (a : Answer) (s : State) : (respond p c a s).pallets = s.pallets := rfl
@[simp] theorem respond_lanes (p : Port) (c : Byte) (a : Answer) (s : State) : (respond p c a s).lanes = s.lanes := rfl
@[simp] theorem respond_doors (p : Port) (c : Byte) (a : Answer) (s : State) : (respond p c a s).doors = s.doors := rfl
@[simp] theorem respond_waits (p : Port) (c : Byte) (a : Answer) (s : State) : (respond p c a s).waits = s.waits := rfl
@[simp] theorem respond_loop (p : Port) (c : Byte) (a : Answer) (s : State) : (respond p c a s).loop = s.loop := rfl
@[simp] theorem respond_units (p : Port) (c : Byte) (a : Answer) (s : State) : (respond p c a s).units = s.units := rfl
@[simp] theorem respond_defrostQueue (p : Port) (c : Byte) (a : Answer) (s : State) : (respond p c a s).defrostQueue = s.defrostQueue := rfl
@[simp] theorem respond_manifests (p : Port) (c : Byte) (a : Answer) (s : State) : (respond p c a s).manifests = s.manifests := rfl
@[simp] theorem respond_alarms (p : Port) (c : Byte) (a : Answer) (s : State) : (respond p c a s).alarms = s.alarms := rfl
@[simp] theorem respond_profile (p : Port) (c : Byte) (a : Answer) (s : State) : (respond p c a s).profile = s.profile := rfl
@[simp] theorem respond_store (p : Port) (c : Byte) (a : Answer) (s : State) : (respond p c a s).store = s.store := rfl

@[simp] theorem endForced_pending (d : DoorId) (s : State) : (endForced d s).pending = s.pending := by unfold endForced; split <;> simp
@[simp] theorem endForced_power (d : DoorId) (s : State) : (endForced d s).power = s.power := by unfold endForced; split <;> simp
@[simp] theorem endForced_marker (d : DoorId) (s : State) : (endForced d s).marker = s.marker := by unfold endForced; split <;> simp
@[simp] theorem endForced_clock (d : DoorId) (s : State) : (endForced d s).clock = s.clock := by unfold endForced; split <;> simp
@[simp] theorem endForced_clockValid (d : DoorId) (s : State) : (endForced d s).clockValid = s.clockValid := by unfold endForced; split <;> simp
@[simp] theorem endForced_report (d : DoorId) (s : State) : (endForced d s).report = s.report := by unfold endForced; split <;> simp
@[simp] theorem endForced_converter (d : DoorId) (s : State) : (endForced d s).converter = s.converter := by unfold endForced; split <;> simp
@[simp] theorem endForced_zones (d : DoorId) (s : State) : (endForced d s).zones = s.zones := by unfold endForced; split <;> simp
@[simp] theorem endForced_exposure (d : DoorId) (s : State) : (endForced d s).exposure = s.exposure := by unfold endForced; split <;> simp
@[simp] theorem endForced_pallets (d : DoorId) (s : State) : (endForced d s).pallets = s.pallets := by unfold endForced; split <;> simp
@[simp] theorem endForced_lanes (d : DoorId) (s : State) : (endForced d s).lanes = s.lanes := by unfold endForced; split <;> simp
@[simp] theorem endForced_waits (d : DoorId) (s : State) : (endForced d s).waits = s.waits := by unfold endForced; split <;> simp
@[simp] theorem endForced_loop (d : DoorId) (s : State) : (endForced d s).loop = s.loop := by unfold endForced; split <;> simp
@[simp] theorem endForced_units (d : DoorId) (s : State) : (endForced d s).units = s.units := by unfold endForced; split <;> simp
@[simp] theorem endForced_defrostQueue (d : DoorId) (s : State) : (endForced d s).defrostQueue = s.defrostQueue := by unfold endForced; split <;> simp
@[simp] theorem endForced_manifests (d : DoorId) (s : State) : (endForced d s).manifests = s.manifests := by unfold endForced; split <;> simp
@[simp] theorem endForced_profile (d : DoorId) (s : State) : (endForced d s).profile = s.profile := by unfold endForced; split <;> simp
@[simp] theorem endForced_store (d : DoorId) (s : State) : (endForced d s).store = s.store := by unfold endForced; split <;> simp

@[simp] theorem setPermit_pending (d : DoorId) (b : Bool) (s : State) : (setPermit d b s).pending = s.pending := rfl
@[simp] theorem setPermit_power (d : DoorId) (b : Bool) (s : State) : (setPermit d b s).power = s.power := rfl
@[simp] theorem setPermit_marker (d : DoorId) (b : Bool) (s : State) : (setPermit d b s).marker = s.marker := rfl
@[simp] theorem setPermit_clock (d : DoorId) (b : Bool) (s : State) : (setPermit d b s).clock = s.clock := rfl
@[simp] theorem setPermit_clockValid (d : DoorId) (b : Bool) (s : State) : (setPermit d b s).clockValid = s.clockValid := rfl
@[simp] theorem setPermit_report (d : DoorId) (b : Bool) (s : State) : (setPermit d b s).report = s.report := rfl
@[simp] theorem setPermit_converter (d : DoorId) (b : Bool) (s : State) : (setPermit d b s).converter = s.converter := rfl
@[simp] theorem setPermit_zones (d : DoorId) (b : Bool) (s : State) : (setPermit d b s).zones = s.zones := rfl
@[simp] theorem setPermit_exposure (d : DoorId) (b : Bool) (s : State) : (setPermit d b s).exposure = s.exposure := rfl
@[simp] theorem setPermit_pallets (d : DoorId) (b : Bool) (s : State) : (setPermit d b s).pallets = s.pallets := rfl
@[simp] theorem setPermit_lanes (d : DoorId) (b : Bool) (s : State) : (setPermit d b s).lanes = s.lanes := rfl
@[simp] theorem setPermit_doors (d : DoorId) (b : Bool) (s : State) : (setPermit d b s).doors = s.doors := rfl
@[simp] theorem setPermit_waits (d : DoorId) (b : Bool) (s : State) : (setPermit d b s).waits = s.waits := rfl
@[simp] theorem setPermit_units (d : DoorId) (b : Bool) (s : State) : (setPermit d b s).units = s.units := rfl
@[simp] theorem setPermit_defrostQueue (d : DoorId) (b : Bool) (s : State) : (setPermit d b s).defrostQueue = s.defrostQueue := rfl
@[simp] theorem setPermit_manifests (d : DoorId) (b : Bool) (s : State) : (setPermit d b s).manifests = s.manifests := rfl
@[simp] theorem setPermit_alarms (d : DoorId) (b : Bool) (s : State) : (setPermit d b s).alarms = s.alarms := rfl
@[simp] theorem setPermit_ports (d : DoorId) (b : Bool) (s : State) : (setPermit d b s).ports = s.ports := rfl
@[simp] theorem setPermit_profile (d : DoorId) (b : Bool) (s : State) : (setPermit d b s).profile = s.profile := rfl
@[simp] theorem setPermit_store (d : DoorId) (b : Bool) (s : State) : (setPermit d b s).store = s.store := rfl

@[simp] theorem openEntry_pending (d : DoorId) (s : State) : (openEntry d s).pending = s.pending := by simp [openEntry]
@[simp] theorem openEntry_power (d : DoorId) (s : State) : (openEntry d s).power = s.power := by simp [openEntry]
@[simp] theorem openEntry_marker (d : DoorId) (s : State) : (openEntry d s).marker = s.marker := by simp [openEntry]
@[simp] theorem openEntry_clock (d : DoorId) (s : State) : (openEntry d s).clock = s.clock := by simp [openEntry]
@[simp] theorem openEntry_clockValid (d : DoorId) (s : State) : (openEntry d s).clockValid = s.clockValid := by simp [openEntry]
@[simp] theorem openEntry_report (d : DoorId) (s : State) : (openEntry d s).report = s.report := by simp [openEntry]
@[simp] theorem openEntry_converter (d : DoorId) (s : State) : (openEntry d s).converter = s.converter := by simp [openEntry]
@[simp] theorem openEntry_zones (d : DoorId) (s : State) : (openEntry d s).zones = s.zones := by simp [openEntry]
@[simp] theorem openEntry_exposure (d : DoorId) (s : State) : (openEntry d s).exposure = s.exposure := by simp [openEntry]
@[simp] theorem openEntry_pallets (d : DoorId) (s : State) : (openEntry d s).pallets = s.pallets := by simp [openEntry]
@[simp] theorem openEntry_lanes (d : DoorId) (s : State) : (openEntry d s).lanes = s.lanes := by simp [openEntry]
@[simp] theorem openEntry_waits (d : DoorId) (s : State) : (openEntry d s).waits = s.waits := by simp [openEntry]
@[simp] theorem openEntry_units (d : DoorId) (s : State) : (openEntry d s).units = s.units := by simp [openEntry]
@[simp] theorem openEntry_defrostQueue (d : DoorId) (s : State) : (openEntry d s).defrostQueue = s.defrostQueue := by simp [openEntry]
@[simp] theorem openEntry_manifests (d : DoorId) (s : State) : (openEntry d s).manifests = s.manifests := by simp [openEntry]
@[simp] theorem openEntry_profile (d : DoorId) (s : State) : (openEntry d s).profile = s.profile := by simp [openEntry]
@[simp] theorem openEntry_store (d : DoorId) (s : State) : (openEntry d s).store = s.store := by simp [openEntry]

@[simp] theorem serviceZone_pending (z : ZoneId) (n : Nat) (s : State) : (serviceZone z n s).pending = s.pending := by
  induction n generalizing s with
  | zero => rfl
  | succ n ih =>
    unfold serviceZone; split
    · rfl
    · split <;> simp [ih]
@[simp] theorem serviceZone_power (z : ZoneId) (n : Nat) (s : State) : (serviceZone z n s).power = s.power := by
  induction n generalizing s with
  | zero => rfl
  | succ n ih =>
    unfold serviceZone; split
    · rfl
    · split <;> simp [ih]
@[simp] theorem serviceZone_marker (z : ZoneId) (n : Nat) (s : State) : (serviceZone z n s).marker = s.marker := by
  induction n generalizing s with
  | zero => rfl
  | succ n ih =>
    unfold serviceZone; split
    · rfl
    · split <;> simp [ih]
@[simp] theorem serviceZone_clock (z : ZoneId) (n : Nat) (s : State) : (serviceZone z n s).clock = s.clock := by
  induction n generalizing s with
  | zero => rfl
  | succ n ih =>
    unfold serviceZone; split
    · rfl
    · split <;> simp [ih]
@[simp] theorem serviceZone_clockValid (z : ZoneId) (n : Nat) (s : State) : (serviceZone z n s).clockValid = s.clockValid := by
  induction n generalizing s with
  | zero => rfl
  | succ n ih =>
    unfold serviceZone; split
    · rfl
    · split <;> simp [ih]
@[simp] theorem serviceZone_report (z : ZoneId) (n : Nat) (s : State) : (serviceZone z n s).report = s.report := by
  induction n generalizing s with
  | zero => rfl
  | succ n ih =>
    unfold serviceZone; split
    · rfl
    · split <;> simp [ih]
@[simp] theorem serviceZone_converter (z : ZoneId) (n : Nat) (s : State) : (serviceZone z n s).converter = s.converter := by
  induction n generalizing s with
  | zero => rfl
  | succ n ih =>
    unfold serviceZone; split
    · rfl
    · split <;> simp [ih]
@[simp] theorem serviceZone_zones (z : ZoneId) (n : Nat) (s : State) : (serviceZone z n s).zones = s.zones := by
  induction n generalizing s with
  | zero => rfl
  | succ n ih =>
    unfold serviceZone; split
    · rfl
    · split <;> simp [ih]
@[simp] theorem serviceZone_exposure (z : ZoneId) (n : Nat) (s : State) : (serviceZone z n s).exposure = s.exposure := by
  induction n generalizing s with
  | zero => rfl
  | succ n ih =>
    unfold serviceZone; split
    · rfl
    · split <;> simp [ih]
@[simp] theorem serviceZone_pallets (z : ZoneId) (n : Nat) (s : State) : (serviceZone z n s).pallets = s.pallets := by
  induction n generalizing s with
  | zero => rfl
  | succ n ih =>
    unfold serviceZone; split
    · rfl
    · split <;> simp [ih]
@[simp] theorem serviceZone_lanes (z : ZoneId) (n : Nat) (s : State) : (serviceZone z n s).lanes = s.lanes := by
  induction n generalizing s with
  | zero => rfl
  | succ n ih =>
    unfold serviceZone; split
    · rfl
    · split <;> simp [ih]
@[simp] theorem serviceZone_units (z : ZoneId) (n : Nat) (s : State) : (serviceZone z n s).units = s.units := by
  induction n generalizing s with
  | zero => rfl
  | succ n ih =>
    unfold serviceZone; split
    · rfl
    · split <;> simp [ih]
@[simp] theorem serviceZone_defrostQueue (z : ZoneId) (n : Nat) (s : State) : (serviceZone z n s).defrostQueue = s.defrostQueue := by
  induction n generalizing s with
  | zero => rfl
  | succ n ih =>
    unfold serviceZone; split
    · rfl
    · split <;> simp [ih]
@[simp] theorem serviceZone_manifests (z : ZoneId) (n : Nat) (s : State) : (serviceZone z n s).manifests = s.manifests := by
  induction n generalizing s with
  | zero => rfl
  | succ n ih =>
    unfold serviceZone; split
    · rfl
    · split <;> simp [ih]
@[simp] theorem serviceZone_profile (z : ZoneId) (n : Nat) (s : State) : (serviceZone z n s).profile = s.profile := by
  induction n generalizing s with
  | zero => rfl
  | succ n ih =>
    unfold serviceZone; split
    · rfl
    · split <;> simp [ih]
@[simp] theorem serviceZone_store (z : ZoneId) (n : Nat) (s : State) : (serviceZone z n s).store = s.store := by
  induction n generalizing s with
  | zero => rfl
  | succ n ih =>
    unfold serviceZone; split
    · rfl
    · split <;> simp [ih]

@[simp] theorem service_pending (z : ZoneId) (s : State) : (service z s).pending = s.pending := serviceZone_pending _ _ s
@[simp] theorem service_power (z : ZoneId) (s : State) : (service z s).power = s.power := serviceZone_power _ _ s
@[simp] theorem service_marker (z : ZoneId) (s : State) : (service z s).marker = s.marker := serviceZone_marker _ _ s
@[simp] theorem service_clock (z : ZoneId) (s : State) : (service z s).clock = s.clock := serviceZone_clock _ _ s
@[simp] theorem service_clockValid (z : ZoneId) (s : State) : (service z s).clockValid = s.clockValid := serviceZone_clockValid _ _ s
@[simp] theorem service_report (z : ZoneId) (s : State) : (service z s).report = s.report := serviceZone_report _ _ s
@[simp] theorem service_converter (z : ZoneId) (s : State) : (service z s).converter = s.converter := serviceZone_converter _ _ s
@[simp] theorem service_zones (z : ZoneId) (s : State) : (service z s).zones = s.zones := serviceZone_zones _ _ s
@[simp] theorem service_exposure (z : ZoneId) (s : State) : (service z s).exposure = s.exposure := serviceZone_exposure _ _ s
@[simp] theorem service_pallets (z : ZoneId) (s : State) : (service z s).pallets = s.pallets := serviceZone_pallets _ _ s
@[simp] theorem service_lanes (z : ZoneId) (s : State) : (service z s).lanes = s.lanes := serviceZone_lanes _ _ s
@[simp] theorem service_units (z : ZoneId) (s : State) : (service z s).units = s.units := serviceZone_units _ _ s
@[simp] theorem service_defrostQueue (z : ZoneId) (s : State) : (service z s).defrostQueue = s.defrostQueue := serviceZone_defrostQueue _ _ s
@[simp] theorem service_manifests (z : ZoneId) (s : State) : (service z s).manifests = s.manifests := serviceZone_manifests _ _ s
@[simp] theorem service_profile (z : ZoneId) (s : State) : (service z s).profile = s.profile := serviceZone_profile _ _ s
@[simp] theorem service_store (z : ZoneId) (s : State) : (service z s).store = s.store := serviceZone_store _ _ s

/-- A field that each item's effect leaves alone is left alone by the whole of `forEach`. -/
theorem forEach_field {α β : Type} (g : State → β) (f : α → State → State) (h : ∀ x t, g (f x t) = g t) (xs : List α) (s : State) :
    g (forEach xs f s) = g s := by
  unfold forEach
  induction xs generalizing s with
  | nil => rfl
  | cons x xs ih => simp only [List.foldl_cons]; rw [ih, h]

/-- An invariant that each item's effect keeps is kept by the whole of `forEach`. -/
theorem forEach_inv {α : Type} (I : State → Prop) (f : α → State → State) (h : ∀ x t, I t → I (f x t)) (xs : List α) (s : State)
    (hs : I s) : I (forEach xs f s) := by
  unfold forEach
  induction xs generalizing s with
  | nil => exact hs
  | cons x xs ih => exact ih _ (h x s hs)

@[simp] theorem serviceAll_pending (s : State) : (serviceAll s).pending = s.pending := forEach_field State.pending service (fun z t => service_pending z t) _ s
@[simp] theorem serviceAll_power (s : State) : (serviceAll s).power = s.power := forEach_field State.power service (fun z t => service_power z t) _ s
@[simp] theorem serviceAll_marker (s : State) : (serviceAll s).marker = s.marker := forEach_field State.marker service (fun z t => service_marker z t) _ s
@[simp] theorem serviceAll_clock (s : State) : (serviceAll s).clock = s.clock := forEach_field State.clock service (fun z t => service_clock z t) _ s
@[simp] theorem serviceAll_clockValid (s : State) : (serviceAll s).clockValid = s.clockValid := forEach_field State.clockValid service (fun z t => service_clockValid z t) _ s
@[simp] theorem serviceAll_report (s : State) : (serviceAll s).report = s.report := forEach_field State.report service (fun z t => service_report z t) _ s
@[simp] theorem serviceAll_converter (s : State) : (serviceAll s).converter = s.converter := forEach_field State.converter service (fun z t => service_converter z t) _ s
@[simp] theorem serviceAll_zones (s : State) : (serviceAll s).zones = s.zones := forEach_field State.zones service (fun z t => service_zones z t) _ s
@[simp] theorem serviceAll_exposure (s : State) : (serviceAll s).exposure = s.exposure := forEach_field State.exposure service (fun z t => service_exposure z t) _ s
@[simp] theorem serviceAll_pallets (s : State) : (serviceAll s).pallets = s.pallets := forEach_field State.pallets service (fun z t => service_pallets z t) _ s
@[simp] theorem serviceAll_lanes (s : State) : (serviceAll s).lanes = s.lanes := forEach_field State.lanes service (fun z t => service_lanes z t) _ s
@[simp] theorem serviceAll_units (s : State) : (serviceAll s).units = s.units := forEach_field State.units service (fun z t => service_units z t) _ s
@[simp] theorem serviceAll_defrostQueue (s : State) : (serviceAll s).defrostQueue = s.defrostQueue := forEach_field State.defrostQueue service (fun z t => service_defrostQueue z t) _ s
@[simp] theorem serviceAll_manifests (s : State) : (serviceAll s).manifests = s.manifests := forEach_field State.manifests service (fun z t => service_manifests z t) _ s
@[simp] theorem serviceAll_profile (s : State) : (serviceAll s).profile = s.profile := forEach_field State.profile service (fun z t => service_profile z t) _ s
@[simp] theorem serviceAll_store (s : State) : (serviceAll s).store = s.store := forEach_field State.store service (fun z t => service_store z t) _ s

@[simp] theorem endDeferred_pending (z : ZoneId) (s : State) : (endDeferred z s).pending = s.pending := by unfold endDeferred; split <;> simp
@[simp] theorem endDeferred_power (z : ZoneId) (s : State) : (endDeferred z s).power = s.power := by unfold endDeferred; split <;> simp
@[simp] theorem endDeferred_marker (z : ZoneId) (s : State) : (endDeferred z s).marker = s.marker := by unfold endDeferred; split <;> simp
@[simp] theorem endDeferred_clock (z : ZoneId) (s : State) : (endDeferred z s).clock = s.clock := by unfold endDeferred; split <;> simp
@[simp] theorem endDeferred_clockValid (z : ZoneId) (s : State) : (endDeferred z s).clockValid = s.clockValid := by unfold endDeferred; split <;> simp
@[simp] theorem endDeferred_report (z : ZoneId) (s : State) : (endDeferred z s).report = s.report := by unfold endDeferred; split <;> simp
@[simp] theorem endDeferred_converter (z : ZoneId) (s : State) : (endDeferred z s).converter = s.converter := by unfold endDeferred; split <;> simp
@[simp] theorem endDeferred_zones (z : ZoneId) (s : State) : (endDeferred z s).zones = s.zones := by unfold endDeferred; split <;> simp
@[simp] theorem endDeferred_exposure (z : ZoneId) (s : State) : (endDeferred z s).exposure = s.exposure := by unfold endDeferred; split <;> simp
@[simp] theorem endDeferred_pallets (z : ZoneId) (s : State) : (endDeferred z s).pallets = s.pallets := by unfold endDeferred; split <;> simp
@[simp] theorem endDeferred_lanes (z : ZoneId) (s : State) : (endDeferred z s).lanes = s.lanes := by unfold endDeferred; split <;> simp
@[simp] theorem endDeferred_doors (z : ZoneId) (s : State) : (endDeferred z s).doors = s.doors := by unfold endDeferred; split <;> simp
@[simp] theorem endDeferred_waits (z : ZoneId) (s : State) : (endDeferred z s).waits = s.waits := by unfold endDeferred; split <;> simp
@[simp] theorem endDeferred_loop (z : ZoneId) (s : State) : (endDeferred z s).loop = s.loop := by unfold endDeferred; split <;> simp
@[simp] theorem endDeferred_defrostQueue (z : ZoneId) (s : State) : (endDeferred z s).defrostQueue = s.defrostQueue := by unfold endDeferred; split <;> simp
@[simp] theorem endDeferred_manifests (z : ZoneId) (s : State) : (endDeferred z s).manifests = s.manifests := by unfold endDeferred; split <;> simp
@[simp] theorem endDeferred_profile (z : ZoneId) (s : State) : (endDeferred z s).profile = s.profile := by unfold endDeferred; split <;> simp
@[simp] theorem endDeferred_store (z : ZoneId) (s : State) : (endDeferred z s).store = s.store := by unfold endDeferred; split <;> simp

@[simp] theorem leaveRequested_pending (z : ZoneId) (s : State) : (leaveRequested z s).pending = s.pending := by simp [leaveRequested]
@[simp] theorem leaveRequested_power (z : ZoneId) (s : State) : (leaveRequested z s).power = s.power := by simp [leaveRequested]
@[simp] theorem leaveRequested_marker (z : ZoneId) (s : State) : (leaveRequested z s).marker = s.marker := by simp [leaveRequested]
@[simp] theorem leaveRequested_clock (z : ZoneId) (s : State) : (leaveRequested z s).clock = s.clock := by simp [leaveRequested]
@[simp] theorem leaveRequested_clockValid (z : ZoneId) (s : State) : (leaveRequested z s).clockValid = s.clockValid := by simp [leaveRequested]
@[simp] theorem leaveRequested_report (z : ZoneId) (s : State) : (leaveRequested z s).report = s.report := by simp [leaveRequested]
@[simp] theorem leaveRequested_converter (z : ZoneId) (s : State) : (leaveRequested z s).converter = s.converter := by simp [leaveRequested]
@[simp] theorem leaveRequested_zones (z : ZoneId) (s : State) : (leaveRequested z s).zones = s.zones := by simp [leaveRequested]
@[simp] theorem leaveRequested_exposure (z : ZoneId) (s : State) : (leaveRequested z s).exposure = s.exposure := by simp [leaveRequested]
@[simp] theorem leaveRequested_pallets (z : ZoneId) (s : State) : (leaveRequested z s).pallets = s.pallets := by simp [leaveRequested]
@[simp] theorem leaveRequested_lanes (z : ZoneId) (s : State) : (leaveRequested z s).lanes = s.lanes := by simp [leaveRequested]
@[simp] theorem leaveRequested_doors (z : ZoneId) (s : State) : (leaveRequested z s).doors = s.doors := by simp [leaveRequested]
@[simp] theorem leaveRequested_waits (z : ZoneId) (s : State) : (leaveRequested z s).waits = s.waits := by simp [leaveRequested]
@[simp] theorem leaveRequested_loop (z : ZoneId) (s : State) : (leaveRequested z s).loop = s.loop := by simp [leaveRequested]
@[simp] theorem leaveRequested_manifests (z : ZoneId) (s : State) : (leaveRequested z s).manifests = s.manifests := by simp [leaveRequested]
@[simp] theorem leaveRequested_profile (z : ZoneId) (s : State) : (leaveRequested z s).profile = s.profile := by simp [leaveRequested]
@[simp] theorem leaveRequested_store (z : ZoneId) (s : State) : (leaveRequested z s).store = s.store := by simp [leaveRequested]

@[simp] theorem grantDefrost_pending (z : ZoneId) (s : State) : (grantDefrost z s).pending = s.pending := by simp [grantDefrost]
@[simp] theorem grantDefrost_power (z : ZoneId) (s : State) : (grantDefrost z s).power = s.power := by simp [grantDefrost]
@[simp] theorem grantDefrost_marker (z : ZoneId) (s : State) : (grantDefrost z s).marker = s.marker := by simp [grantDefrost]
@[simp] theorem grantDefrost_clock (z : ZoneId) (s : State) : (grantDefrost z s).clock = s.clock := by simp [grantDefrost]
@[simp] theorem grantDefrost_clockValid (z : ZoneId) (s : State) : (grantDefrost z s).clockValid = s.clockValid := by simp [grantDefrost]
@[simp] theorem grantDefrost_report (z : ZoneId) (s : State) : (grantDefrost z s).report = s.report := by simp [grantDefrost]
@[simp] theorem grantDefrost_converter (z : ZoneId) (s : State) : (grantDefrost z s).converter = s.converter := by simp [grantDefrost]
@[simp] theorem grantDefrost_zones (z : ZoneId) (s : State) : (grantDefrost z s).zones = s.zones := by simp [grantDefrost]
@[simp] theorem grantDefrost_exposure (z : ZoneId) (s : State) : (grantDefrost z s).exposure = s.exposure := by simp [grantDefrost]
@[simp] theorem grantDefrost_pallets (z : ZoneId) (s : State) : (grantDefrost z s).pallets = s.pallets := by simp [grantDefrost]
@[simp] theorem grantDefrost_lanes (z : ZoneId) (s : State) : (grantDefrost z s).lanes = s.lanes := by simp [grantDefrost]
@[simp] theorem grantDefrost_doors (z : ZoneId) (s : State) : (grantDefrost z s).doors = s.doors := by simp [grantDefrost]
@[simp] theorem grantDefrost_waits (z : ZoneId) (s : State) : (grantDefrost z s).waits = s.waits := by simp [grantDefrost]
@[simp] theorem grantDefrost_loop (z : ZoneId) (s : State) : (grantDefrost z s).loop = s.loop := by simp [grantDefrost]
@[simp] theorem grantDefrost_manifests (z : ZoneId) (s : State) : (grantDefrost z s).manifests = s.manifests := by simp [grantDefrost]
@[simp] theorem grantDefrost_profile (z : ZoneId) (s : State) : (grantDefrost z s).profile = s.profile := by simp [grantDefrost]
@[simp] theorem grantDefrost_store (z : ZoneId) (s : State) : (grantDefrost z s).store = s.store := by simp [grantDefrost]

@[simp] theorem grantLoop_pending (n : Nat) (s : State) : (grantLoop n s).pending = s.pending := by
  induction n generalizing s with
  | zero => rfl
  | succ n ih =>
    unfold grantLoop; split
    · rfl
    · simp [ih]
@[simp] theorem grantLoop_power (n : Nat) (s : State) : (grantLoop n s).power = s.power := by
  induction n generalizing s with
  | zero => rfl
  | succ n ih =>
    unfold grantLoop; split
    · rfl
    · simp [ih]
@[simp] theorem grantLoop_marker (n : Nat) (s : State) : (grantLoop n s).marker = s.marker := by
  induction n generalizing s with
  | zero => rfl
  | succ n ih =>
    unfold grantLoop; split
    · rfl
    · simp [ih]
@[simp] theorem grantLoop_clock (n : Nat) (s : State) : (grantLoop n s).clock = s.clock := by
  induction n generalizing s with
  | zero => rfl
  | succ n ih =>
    unfold grantLoop; split
    · rfl
    · simp [ih]
@[simp] theorem grantLoop_clockValid (n : Nat) (s : State) : (grantLoop n s).clockValid = s.clockValid := by
  induction n generalizing s with
  | zero => rfl
  | succ n ih =>
    unfold grantLoop; split
    · rfl
    · simp [ih]
@[simp] theorem grantLoop_report (n : Nat) (s : State) : (grantLoop n s).report = s.report := by
  induction n generalizing s with
  | zero => rfl
  | succ n ih =>
    unfold grantLoop; split
    · rfl
    · simp [ih]
@[simp] theorem grantLoop_converter (n : Nat) (s : State) : (grantLoop n s).converter = s.converter := by
  induction n generalizing s with
  | zero => rfl
  | succ n ih =>
    unfold grantLoop; split
    · rfl
    · simp [ih]
@[simp] theorem grantLoop_zones (n : Nat) (s : State) : (grantLoop n s).zones = s.zones := by
  induction n generalizing s with
  | zero => rfl
  | succ n ih =>
    unfold grantLoop; split
    · rfl
    · simp [ih]
@[simp] theorem grantLoop_exposure (n : Nat) (s : State) : (grantLoop n s).exposure = s.exposure := by
  induction n generalizing s with
  | zero => rfl
  | succ n ih =>
    unfold grantLoop; split
    · rfl
    · simp [ih]
@[simp] theorem grantLoop_pallets (n : Nat) (s : State) : (grantLoop n s).pallets = s.pallets := by
  induction n generalizing s with
  | zero => rfl
  | succ n ih =>
    unfold grantLoop; split
    · rfl
    · simp [ih]
@[simp] theorem grantLoop_lanes (n : Nat) (s : State) : (grantLoop n s).lanes = s.lanes := by
  induction n generalizing s with
  | zero => rfl
  | succ n ih =>
    unfold grantLoop; split
    · rfl
    · simp [ih]
@[simp] theorem grantLoop_doors (n : Nat) (s : State) : (grantLoop n s).doors = s.doors := by
  induction n generalizing s with
  | zero => rfl
  | succ n ih =>
    unfold grantLoop; split
    · rfl
    · simp [ih]
@[simp] theorem grantLoop_waits (n : Nat) (s : State) : (grantLoop n s).waits = s.waits := by
  induction n generalizing s with
  | zero => rfl
  | succ n ih =>
    unfold grantLoop; split
    · rfl
    · simp [ih]
@[simp] theorem grantLoop_loop (n : Nat) (s : State) : (grantLoop n s).loop = s.loop := by
  induction n generalizing s with
  | zero => rfl
  | succ n ih =>
    unfold grantLoop; split
    · rfl
    · simp [ih]
@[simp] theorem grantLoop_manifests (n : Nat) (s : State) : (grantLoop n s).manifests = s.manifests := by
  induction n generalizing s with
  | zero => rfl
  | succ n ih =>
    unfold grantLoop; split
    · rfl
    · simp [ih]
@[simp] theorem grantLoop_profile (n : Nat) (s : State) : (grantLoop n s).profile = s.profile := by
  induction n generalizing s with
  | zero => rfl
  | succ n ih =>
    unfold grantLoop; split
    · rfl
    · simp [ih]
@[simp] theorem grantLoop_store (n : Nat) (s : State) : (grantLoop n s).store = s.store := by
  induction n generalizing s with
  | zero => rfl
  | succ n ih =>
    unfold grantLoop; split
    · rfl
    · simp [ih]

@[simp] theorem grantJudgment_pending (s : State) : (grantJudgment s).pending = s.pending := grantLoop_pending _ s
@[simp] theorem grantJudgment_power (s : State) : (grantJudgment s).power = s.power := grantLoop_power _ s
@[simp] theorem grantJudgment_marker (s : State) : (grantJudgment s).marker = s.marker := grantLoop_marker _ s
@[simp] theorem grantJudgment_clock (s : State) : (grantJudgment s).clock = s.clock := grantLoop_clock _ s
@[simp] theorem grantJudgment_clockValid (s : State) : (grantJudgment s).clockValid = s.clockValid := grantLoop_clockValid _ s
@[simp] theorem grantJudgment_report (s : State) : (grantJudgment s).report = s.report := grantLoop_report _ s
@[simp] theorem grantJudgment_converter (s : State) : (grantJudgment s).converter = s.converter := grantLoop_converter _ s
@[simp] theorem grantJudgment_zones (s : State) : (grantJudgment s).zones = s.zones := grantLoop_zones _ s
@[simp] theorem grantJudgment_exposure (s : State) : (grantJudgment s).exposure = s.exposure := grantLoop_exposure _ s
@[simp] theorem grantJudgment_pallets (s : State) : (grantJudgment s).pallets = s.pallets := grantLoop_pallets _ s
@[simp] theorem grantJudgment_lanes (s : State) : (grantJudgment s).lanes = s.lanes := grantLoop_lanes _ s
@[simp] theorem grantJudgment_doors (s : State) : (grantJudgment s).doors = s.doors := grantLoop_doors _ s
@[simp] theorem grantJudgment_waits (s : State) : (grantJudgment s).waits = s.waits := grantLoop_waits _ s
@[simp] theorem grantJudgment_loop (s : State) : (grantJudgment s).loop = s.loop := grantLoop_loop _ s
@[simp] theorem grantJudgment_manifests (s : State) : (grantJudgment s).manifests = s.manifests := grantLoop_manifests _ s
@[simp] theorem grantJudgment_profile (s : State) : (grantJudgment s).profile = s.profile := grantLoop_profile _ s
@[simp] theorem grantJudgment_store (s : State) : (grantJudgment s).store = s.store := grantLoop_store _ s

@[simp] theorem settle_pending (s : State) : (settle s).pending = s.pending := by simp [settle]
@[simp] theorem settle_power (s : State) : (settle s).power = s.power := by simp [settle]
@[simp] theorem settle_marker (s : State) : (settle s).marker = s.marker := by simp [settle]
@[simp] theorem settle_clock (s : State) : (settle s).clock = s.clock := by simp [settle]
@[simp] theorem settle_clockValid (s : State) : (settle s).clockValid = s.clockValid := by simp [settle]
@[simp] theorem settle_report (s : State) : (settle s).report = s.report := by simp [settle]
@[simp] theorem settle_converter (s : State) : (settle s).converter = s.converter := by simp [settle]
@[simp] theorem settle_zones (s : State) : (settle s).zones = s.zones := by simp [settle]
@[simp] theorem settle_exposure (s : State) : (settle s).exposure = s.exposure := by simp [settle]
@[simp] theorem settle_pallets (s : State) : (settle s).pallets = s.pallets := by simp [settle]
@[simp] theorem settle_lanes (s : State) : (settle s).lanes = s.lanes := by simp [settle]
@[simp] theorem settle_manifests (s : State) : (settle s).manifests = s.manifests := by simp [settle]
@[simp] theorem settle_profile (s : State) : (settle s).profile = s.profile := by simp [settle]
@[simp] theorem settle_store (s : State) : (settle s).store = s.store := by simp [settle]

end Sys2Proof.Machine
end

