-- ==== Sys2Proof/Laws/Ports.lean ====
section
/-! SUPPORT. What happens to the three ports: a posted notice, a raised or cleared alarm, the queue service and the grants leave every line
alone and only add notices; a frame and its answer touch their own port. -/

namespace Sys2Proof.Machine

/-! ## Notices only add -/

/-- Every port's line is as it was, its pending set has only grown, and only in these kinds. -/
def Told (ks : List NoticeKind) (s t : State) : Prop :=
  ∀ q, PortKept (s.port q) (t.port q) ∧ (∀ m, (s.port q).pending &&& m ≠ 0 → (t.port q).pending &&& m ≠ 0) ∧
    ∀ k, k ∉ ks → (t.port q).pending &&& k.bit = (s.port q).pending &&& k.bit

theorem Told.rfl {ks : List NoticeKind} {s : State} : Told ks s s :=
  fun _ => ⟨by simp [PortKept], fun _ h => h, fun _ _ => Eq.refl _⟩

theorem Told.trans {ks : List NoticeKind} {s t u : State} (a : Told ks s t) (b : Told ks t u) : Told ks s u := by
  intro q
  refine ⟨?_, fun m h => (b q).2.1 m ((a q).2.1 m h), fun k h => ((b q).2.2 k h).trans ((a q).2.2 k h)⟩
  have ha := (a q).1
  have hb := (b q).1
  unfold PortKept at *
  rw [hb, ha]

theorem Told.wider {ks js : List NoticeKind} {s t : State} (a : Told ks s t) (h : ∀ k ∈ ks, k ∈ js) : Told js s t :=
  fun q => ⟨(a q).1, (a q).2.1, fun k hk => (a q).2.2 k fun hm => hk (h k hm)⟩

/-- An operation that leaves the ports alone. -/
theorem Told.of_ports {ks : List NoticeKind} {s t : State} (h : t.ports = s.ports) : Told ks s t := by
  intro q; unfold State.port; rw [h]; exact Told.rfl (ks := ks) (s := s) q

theorem Told.kept {ks : List NoticeKind} {s t : State} (h : Told ks s t) : PortsKept s t := fun q => (h q).1

theorem Told.only {ks : List NoticeKind} {s t : State} (h : Told ks s t) : OnlyNotices ks s t := fun q k hk => (h q).2.2 k hk

theorem bit_disjoint (k j : NoticeKind) (h : j ≠ k) : k.bit &&& j.bit = 0 := by
  revert h; cases k <;> cases j <;> decide

theorem bits_add (a b m : NoticeSet) (h : a &&& m ≠ 0) : (a ||| b) &&& m ≠ 0 := by
  intro e
  apply h
  apply BitVec.eq_of_getLsbD_eq
  intro i _
  have e' := congrArg (fun x : NoticeSet => x.getLsbD i) e
  simp only [BitVec.getLsbD_and, BitVec.getLsbD_or, BitVec.ofNat_eq_ofNat, BitVec.getLsbD_zero] at e' ⊢
  revert e'
  cases a.getLsbD i <;> cases b.getLsbD i <;> cases m.getLsbD i <;> decide

/-- A posted bit that the enable set holds is in the pending set after the post. -/
theorem bits_post (a en k : NoticeSet) (h : en &&& k ≠ 0) : (a ||| (en &&& k)) &&& k ≠ 0 := by
  intro e
  apply h
  apply BitVec.eq_of_getLsbD_eq
  intro i _
  have e' := congrArg (fun x : NoticeSet => x.getLsbD i) e
  simp only [BitVec.getLsbD_and, BitVec.getLsbD_or, BitVec.ofNat_eq_ofNat, BitVec.getLsbD_zero] at e' ⊢
  revert e'
  cases a.getLsbD i <;> cases en.getLsbD i <;> cases k.getLsbD i <;> decide

@[simp] theorem post_port (k : NoticeKind) (s : State) (q : Port) : (post k s).port q = (s.port q).take k := by
  cases q <;> rfl

theorem told_post (k : NoticeKind) (s : State) : Told [k] s (post k s) := by
  intro q
  rw [post_port]
  refine ⟨by simp [PortKept, PortRecord.take], fun m h => bits_add _ _ _ h, fun j hj => ?_⟩
  have hd := bit_disjoint k j (by simpa using hj)
  simp only [PortRecord.take]
  apply BitVec.eq_of_getLsbD_eq
  intro i _
  have e := congrArg (fun x : NoticeSet => x.getLsbD i) hd
  simp only [BitVec.getLsbD_and, BitVec.getLsbD_or, BitVec.ofNat_eq_ofNat, BitVec.getLsbD_zero] at e ⊢
  revert e
  cases (s.port q).pending.getLsbD i <;> cases (s.port q).enable.getLsbD i <;> cases k.bit.getLsbD i <;>
    cases j.bit.getLsbD i <;> decide

theorem told_postIf (b : Bool) (k : NoticeKind) (s : State) : Told [k] s (postIf b k s) := by
  cases b
  · exact Told.rfl
  · exact told_post k s

theorem told_commitAlarms (r : AlarmList × Bool) (s : State) : Told [.alarmChange] s (commitAlarms r s) := by
  unfold commitAlarms
  split
  · exact Told.trans (Told.of_ports (by rfl)) (told_post _ _)
  · exact Told.rfl

theorem told_raise (k : AlarmKind) (sub : Subject) (s : State) : Told [.alarmChange] s (raise k sub s) := told_commitAlarms _ s
theorem told_clear (k : AlarmKind) (sub : Subject) (s : State) : Told [.alarmChange] s (clear k sub s) := told_commitAlarms _ s

/-- After a post the notice is pending wherever it is enabled (R176). -/
theorem posted_post (k : NoticeKind) (s : State) : Posted k (post k s) := by
  intro q h
  rw [post_port] at h ⊢
  exact bits_post _ _ _ h

theorem Posted.told {k : NoticeKind} {ks : List NoticeKind} {s t : State} (h : Posted k s) (g : Told ks s t) : Posted k t := by
  intro q hq
  have e : (t.port q).enable = (s.port q).enable := by
    have := (g q).1; unfold PortKept at this; rw [this]
  exact (g q).2.1 _ (h q (by rw [← e]; exact hq))

/-! ## The queue service and the grants -/

theorem told_endForced (d : DoorId) (s : State) : Told [.alarmChange] s (endForced d s) := by
  unfold endForced; split
  · exact Told.trans (Told.of_ports (by rfl)) (told_clear _ _ _)
  · exact Told.rfl

theorem told_openEntry (d : DoorId) (s : State) : Told [.alarmChange, .doorChange] s (openEntry d s) :=
  Told.trans ((told_endForced d s).wider (by simp)) (Told.trans (Told.of_ports (by rfl)) ((told_post _ _).wider (by simp)))

/-- The notices of the queue service. -/
abbrev serviceNotices : List NoticeKind := [.alarmChange, .doorChange, .openGranted]

theorem told_serviceZone (z : ZoneId) (n : Nat) (s : State) : Told serviceNotices s (serviceZone z n s) := by
  induction n generalizing s with
  | zero => exact Told.rfl
  | succ n ih =>
    unfold serviceZone
    split
    · exact Told.rfl
    · split
      · exact Told.trans (Told.of_ports (by rfl)) (Told.trans ((told_openEntry _ _).wider (by simp))
          (Told.trans ((told_post _ _).wider (by simp)) (ih _)))
      · exact Told.rfl

theorem told_forEach {α : Type} {ks : List NoticeKind} (xs : List α) (f : α → State → State) (h : ∀ x s, Told ks s (f x s))
    (s : State) : Told ks s (forEach xs f s) := by
  unfold forEach
  induction xs generalizing s with
  | nil => exact Told.rfl
  | cons x xs ih => exact Told.trans (h x s) (ih _)

theorem told_serviceAll (s : State) : Told serviceNotices s (serviceAll s) :=
  told_forEach _ _ (fun z s => told_serviceZone z _ s) s

theorem told_endDeferred (z : ZoneId) (s : State) : Told [.alarmChange] s (endDeferred z s) := by
  unfold endDeferred; split
  · exact Told.trans (Told.of_ports (by rfl)) (told_clear _ _ _)
  · exact Told.rfl

theorem told_leaveRequested (z : ZoneId) (s : State) : Told [.alarmChange] s (leaveRequested z s) :=
  Told.trans (Told.of_ports (by rfl)) (told_endDeferred z _)

/-- The notices of the grant judgment. -/
abbrev grantNotices : List NoticeKind := [.alarmChange, .defrostGranted]

theorem told_grantDefrost (z : ZoneId) (s : State) : Told grantNotices s (grantDefrost z s) :=
  Told.trans ((told_leaveRequested z s).wider (by simp)) (Told.trans (Told.of_ports (by rfl)) ((told_post _ _).wider (by simp)))

theorem told_grantLoop (n : Nat) (s : State) : Told grantNotices s (grantLoop n s) := by
  induction n generalizing s with
  | zero => exact Told.rfl
  | succ n ih =>
    unfold grantLoop
    split
    · exact Told.rfl
    · exact Told.trans (told_grantDefrost _ _) (ih _)

/-- The notices of the queue service and the grant judgment. -/
abbrev settleNotices : List NoticeKind := [.alarmChange, .doorChange, .openGranted, .defrostGranted]

theorem told_settle (s : State) : Told settleNotices s (settle s) :=
  Told.trans ((told_serviceAll s).wider (by simp)) ((told_grantLoop _ _).wider (by simp))

/-! ## A frame and its answer -/

theorem takeFrame_own (p : Port) (s : State) :
    PortServed (s.port p) ((takeFrame p s).port p) ∧ ((takeFrame p s).port p).responding = true ∧
    ((takeFrame p s).port p).silent = false ∧ ((takeFrame p s).port p).silence = ⟨true, 0⟩ := by
  unfold takeFrame
  split
  · have h := (told_clear .partySilent (.port p)
        (s.modPort p fun r => { r with silence := .start, silent := false, responding := true }) p).1
    unfold PortKept at h
    rw [h]
    simp [State.port, PortServed, Timer.start]
  · simp [State.port, PortServed, Timer.start]

theorem takeFrame_other (p q : Port) (s : State) (h : q ≠ p) : PortKept (s.port q) ((takeFrame p s).port q) := by
  have e : ∀ f, (s.modPort p f).port q = s.port q := by
    intro f; simp [State.port, ports_get_put, Ne.symm h]
  unfold takeFrame
  split
  · have h := (told_clear .partySilent (.port p)
        (s.modPort p fun r => { r with silence := .start, silent := false, responding := true }) q).1
    rw [e] at h
    exact h
  · rw [e]; simp [PortKept]

/-- The answered request's ports: `u` is what the request's own effect made of the state after the frame. -/
theorem respond_ports (p : Port) (c : Byte) (a : Answer) (s u : State) {ks : List NoticeKind} (h : Told ks (takeFrame p s) u) :
    (PortServed (s.port p) ((respond p c a u).port p) ∧ ∀ q, q ≠ p → PortKept (s.port q) ((respond p c a u).port q)) ∧
    ((respond p c a u).port p).response = some ⟨c, a.result, a.payload⟩ ∧ ((respond p c a u).port p).responding = true ∧
    ((respond p c a u).port p).silent = false ∧ ((respond p c a u).port p).silence = ⟨true, 0⟩ := by
  have own := takeFrame_own p s
  have k := (h p).1
  unfold PortKept at k
  have er : (respond p c a u).port p = { u.port p with response := some ⟨c, a.result, a.payload⟩ } := by
    simp [respond, State.port]
  refine ⟨⟨?_, ?_⟩, ?_, ?_, ?_, ?_⟩
  · rw [er, k]; have := own.1; unfold PortServed at *; rw [this]
  · intro q hq
    have eo : (respond p c a u).port q = u.port q := by simp [respond, State.port, ports_get_put, Ne.symm hq]
    rw [eo]
    have h1 := takeFrame_other p q s hq
    have h2 := (h q).1
    unfold PortKept at *
    rw [h2, h1]
  · rw [er]
  · rw [er, k]; exact own.2.1
  · rw [er, k]; exact own.2.2.1
  · rw [er, k]; exact own.2.2.2

theorem respond_pending_eq (p : Port) (c : Byte) (a : Answer) (u : State) (q : Port) :
    ((respond p c a u).port q).enable = (u.port q).enable ∧ ((respond p c a u).port q).pending = (u.port q).pending := by
  by_cases hp : p = q
  · subst hp; simp [respond, State.port]
  · simp [respond, State.port, ports_get_put, hp]

/-- A served request: `u` is what its own effect made of the state after the frame. -/
theorem accepted_respond {p : Port} {r : Req} {res : Result} {pl : List Byte} {ks : List NoticeKind} {s u : State}
    (h : Told ks (takeFrame p s) u) : Accepted p r res pl ks s (respond p r.code ⟨res, pl⟩ u) := by
  obtain ⟨⟨h1, h2⟩, h3, h4, h5, h6⟩ := respond_ports p r.code ⟨res, pl⟩ s u h
  refine ⟨⟨h3, h4, h5, h6⟩, h1, h2, fun q k hk => ?_⟩
  rw [(respond_pending_eq p r.code ⟨res, pl⟩ u q).2]
  exact (h q).2.2 k hk

theorem respond_posted (k : NoticeKind) (p : Port) (c : Byte) (a : Answer) (u : State) (h : Posted k u) :
    Posted k (respond p c a u) := by
  intro q hq
  have := respond_pending_eq p c a u
  rw [(this q).1] at hq
  rw [(this q).2]
  exact h q hq

end Sys2Proof.Machine
end

