-- ==== Sys2Proof/Laws/Ops.lean ====
section
/-! SUPPORT. One lemma for each shared operation: how a request is served, what the queue service and the grant judgment do to a settled
state, and what a raise and a clear make of the Alarm List. -/

namespace Sys2Proof.Machine

/-! ## Taking a command -/

theorem whenPowered_on {f : State → State} {s : State} (h : s.power ≠ .off) : whenPowered f s = .next (f s) := by
  simp [whenPowered, h]

theorem whenRunning_on {f : State → State} {s : State} (h : s.power = .running) : whenRunning f s = .next (f s) := by
  simp [whenRunning, h]

/-- A request row at a port that is responding is dropped with OVERRUN (R182). -/
theorem serve_late {p : Port} {r : Req} {body : State → Served} {s : State} (hp : s.power ≠ .off)
    (h : (s.port p).responding = true) : serve p r body s = .next (s.modPort p fun x => { x with overrunBit := true }) := by
  simp [serve, whenPowered, hp, takeRequest, h, dropLate]

/-- A request row at a port that is not responding is taken and dispatched. -/
theorem serve_heard {p : Port} {r : Req} {body : State → Served} {s : State} (h : Hears p s) :
    serve p r body s = .next (dispatch p r (some body) (takeFrame p s)) := by
  simp [serve, whenPowered, h.1, takeRequest, h.2]

theorem Ready.hears {p : Port} {s : State} (h : Ready p s) : Hears p s := ⟨by simp [h.1], h.2⟩

/-- A request that its port may send is handed to its block, and answered (R183). -/
theorem serve_takes {p : Port} {r : Req} {body : State → Served} {s : State} (h : Takes p r s) :
    serve p r body s =
      .next (respond p r.code (body (takeFrame p s)).2 (body (takeFrame p s)).1) := by
  obtain ⟨h1, h2⟩ := h
  simp [serve_heard h1.hears, dispatch, dispatched, h2, h1.1]

/-- A request that another role owns is refused (R183). -/
theorem serve_role {p : Port} {r : Req} {body : State → Served} {s : State} (hp : Hears p s) (h : r.openTo p = false) :
    serve p r body s = .next (respond p r.code ⟨.role, []⟩ (takeFrame p s)) := by
  simp [serve_heard hp, dispatch, dispatched, h, refuse]

/-- A request that must wait for the profile load is refused (R183). -/
theorem serve_busy {p : Port} {r : Req} {body : State → Served} {s : State} (hp : Hears p s) (hl : s.power ≠ .running)
    (h : r.openTo p = true) (he : r.early = false) :
    serve p r body s = .next (respond p r.code ⟨.busy, []⟩ (takeFrame p s)) := by
  simp [serve_heard hp, dispatch, dispatched, h, he, hl, refuse]

/-- IDENTIFY, POLL and PORT STATUS are served while main power is present (R183). -/
theorem serve_early {p : Port} {r : Req} {body : State → Served} {s : State} (hp : Hears p s) (h : r.openTo p = true)
    (he : r.early = true) :
    serve p r body s =
      .next (respond p r.code (body (takeFrame p s)).2 (body (takeFrame p s)).1) := by
  simp [serve_heard hp, dispatch, dispatched, h, he]

/-- A dropped frame touches its own port's OVERRUN bit alone (R182). -/
theorem dropLate_own (p : Port) (s : State) : (dropLate p s).port p = { s.port p with overrunBit := true } := by
  simp [dropLate, State.port]

theorem dropLate_other {p q : Port} (h : q ≠ p) (s : State) : (dropLate p s).port q = s.port q := by
  simp [dropLate, State.port, ports_get_put, Ne.symm h]

/-! ## What a load keeps -/

/-- After a load the store holds each entry as it read (R194). -/
theorem keepReads_entry (reads : List (Nat × StoredEntry)) (s : State) (i : Fin 81) :
    (keepReads reads s).store.entries.get i = entryAsRead s reads i := by
  simp [keepReads]

/-- What an entry reads as at a load, by what the store held (R193, R194). -/
theorem entryAsRead_cases (s : State) (reads : List (Nat × StoredEntry)) (i : Fin 81) :
    (s.store.entries.get i = .bad → entryAsRead s reads i = .bad) ∧
    (∀ e, s.store.entries.get i = .oneBit e → entryAsRead s reads i = .oneBit e ∨ entryAsRead s reads i = .bad) ∧
    (s.store.entries.get i = .erased ∨ (∃ e, s.store.entries.get i = .fits e) →
      entryAsRead s reads i = (reads.lookup i.val).getD (s.store.entries.get i)) := by
  unfold entryAsRead
  cases hh : s.store.entries.get i <;> cases reads.lookup i.val <;> simp [readsAs]
  exact (Decidable.em _).symm

/-- The end of a save leaves the store IDLE, and changes at most the entry being written (R193). -/
theorem cut_saving (st : Store) (pr : Profile) (w : WriteCut) : (st.cut pr w).saving = none := by
  rcases st with ⟨es, _ | i⟩ <;> cases w <;> rfl

theorem cut_other {st : Store} {i : Fin 81} (h : st.saving ≠ some i) (pr : Profile) (w : WriteCut) :
    (st.cut pr w).entries.get i = st.entries.get i := by
  rcases st with ⟨es, _ | j⟩
  · cases w <;> rfl
  · have hj : i ≠ j := by rintro rfl; exact h rfl
    cases w
    · rfl
    · exact bank_get_put_other _ _ _ _ hj.symm
    · exact bank_get_put_other _ _ _ _ hj.symm

/-! ## The queue service and the grant judgment at a settled state -/

theorem service_idle {z : ZoneId} {s : State} (h : s.waits.get z ≠ [] → allowsOpen s z = false) : service z s = s := by
  unfold service
  cases hw : s.waits.get z with
  | nil => rfl
  | cons d rest => simp [serviceZone, hw, h (by simp [hw])]

theorem serviceAll_idle {s : State} (h : ∀ z, s.waits.get z ≠ [] → allowsOpen s z = false) : serviceAll s = s := by
  unfold serviceAll forEach
  generalize allZones = zs
  induction zs with
  | nil => rfl
  | cons z zs ih => rw [List.foldl_cons, service_idle (h z)]; exact ih

theorem grantLoop_idle {s : State} (n : Nat) (h : ∀ z ∈ s.defrostQueue, gatesPass s z = false) : grantLoop n s = s := by
  cases n with
  | zero => rfl
  | succ n =>
    have hn : s.defrostQueue.find? (gatesPass s) = none := by
      rw [List.find?_eq_none]; intro z hz; simp [h z hz]
    simp [grantLoop, hn]

/-- Nothing is served or granted at a settled state. -/
theorem settle_settled {s : State} (h : Settled s) : settle s = s := by
  unfold settle grantJudgment
  rw [serviceAll_idle h.1]
  exact grantLoop_idle _ h.2

/-! ## The Alarm List -/

/-- A raise leaves the test timer alone, and a clear the marker too. -/
theorem raised_test (a : AlarmList) (k : AlarmKind) (sub : Subject) (now : Nat) : (a.raised k sub now).1.test = a.test := by
  unfold AlarmList.raised AlarmList.update
  split
  · split <;> rfl
  · split <;> rfl

theorem cleared_overflow (a : AlarmList) (k : AlarmKind) (sub : Subject) (now : Nat) :
    (a.clearedFor k sub now).1.overflow = a.overflow := by
  unfold AlarmList.clearedFor AlarmList.update AlarmList.remove
  split
  · rfl
  · split <;> rfl

/-- A committed change puts the list in place with the next sequence number; no change leaves the state (R167). -/
theorem commitAlarms_alarms (r : AlarmList × Bool) (s : State) :
    (commitAlarms r s).alarms = if r.2 then { r.1 with seq := (r.1.seq + 1) % 65536 } else s.alarms := by
  unfold commitAlarms; split <;> rfl

/-! ## Re-addressing -/

/-- What the judgment of re-addressing can do to the open window: outside a run, an attempt under way ends where re-addressing is not called
for, and any other window stays (R128, R129). -/
theorem judgeReaddressing_window (s : State) :
    (judgeReaddressing s).loop.window =
      if s.loop.mode = .addressing ∨ readdressCalled s = true then s.loop.window else s.loop.window.endAttempt := by
  have h : ∀ (b : Option DoorId) (t : State), (setBreak b t).loop.window = t.loop.window := by
    intro b t; unfold setBreak; split <;> rfl
  unfold judgeReaddressing
  by_cases hm : s.loop.mode = .addressing
  · simp [hm]
  · by_cases hc : readdressCalled s = true
    · simp only [hm, hc, if_true, if_false, or_true]; split <;> rfl
    · simp [hm, hc, h]

end Sys2Proof.Machine
end

