-- ==== Sys2Proof/Laws/Tables.lean ====
section
/-! SUPPORT. The model's own functions give what the manual's tables, as Safety.lean writes them down, say: alarm codes and subjects, named
values, the dwell and reserve rules and the byte layouts. -/

namespace Sys2Proof.Machine

@[simp] theorem docked_state (now : Nat) (r : DoorRecord) : (r.docked now).state = .docked := rfl
@[simp] theorem docked_dockedAt (now : Nat) (r : DoorRecord) : (r.docked now).dockedAt = some now := rfl

/-! ## Dwell, named values and ordered limits -/

theorem onDockSide_iff (s : State) (loc : Location) : onDockSide s loc = true ↔ DwellGrows s loc := by
  rcases loc with (d | l | z) | m | _ <;> simp [onDockSide, DwellGrows, zoneIsDock]

/-- The reserve-risk set of R139. -/
theorem atReserveRisk_iff (s : State) (z : ZoneId) (p : Pallet) : atReserveRisk s z p = true ↔
    ((∃ l, p.location = .at (.lane l) ∧ laneZone s l = z) ∨ p.location = .at (.bulk z)) ∧
    (p.status = .normal ∨ p.status = .warning) ∧
    ((classEntry s p.cls).budget : Int) - p.account < (classEntry s p.cls).reserve := by
  have hs : (p.status != .over) = true ↔ p.status = .normal ∨ p.status = .warning := by cases p.status <;> decide
  have hb : (classEntry s p.cls).budget < p.account + (classEntry s p.cls).reserve ↔
      ((classEntry s p.cls).budget : Int) - p.account < (classEntry s p.cls).reserve := by omega
  unfold atReserveRisk
  rw [Bool.and_eq_true, Bool.and_eq_true, decide_eq_true_iff, hs, hb, and_assoc]
  apply and_congr_left'
  rcases p.location with (d | l | y) | m | _ <;> simp

theorem paramsOrdered_iff (e : EntryParams) : paramsOrdered e = true ↔ LimitsOrdered e := by
  cases e <;> simp [paramsOrdered, LimitsOrdered, and_assoc]

/-- Clamping moves no named value. -/
theorem namesDefined_clamp (id : EntryId) (e : EntryParams) : NamesDefined id (clampParams e) ↔ NamesDefined id e := by
  cases id <;> cases e <;> simp [NamesDefined, clampParams]

theorem zoneKind?_isSome (n : Nat) : (zoneKind? n).isSome = true ↔ n ≤ 4 := by
  match n with
  | 0 | 1 | 2 | 3 | 4 => simp [zoneKind?]
  | n + 5 => simp [zoneKind?]

theorem numbered_isSome (n k : Nat) : (numbered n k).isSome = true ↔ 1 ≤ k ∧ k ≤ n := by
  unfold numbered; split <;> simp_all

theorem flag?_isSome (n : Nat) : (flag? n).isSome = true ↔ n ≤ 1 := by
  match n with
  | 0 | 1 => simp [flag?]
  | n + 2 => simp [flag?]

/-- An entry is installed exactly where its named values are defined (R191, R194). -/
theorem install_isSome (pr : Profile) (id : EntryId) (e : EntryParams) : (pr.install id e).isSome = true ↔ NamesDefined id e := by
  cases id <;> cases e <;> simp [Profile.install, NamesDefined, namedZone, namedLane, zone?, zoneKind?_isSome, numbered_isSome]
  case door d e =>
    have h1 := flag?_isSome e.enabled
    have h2 := numbered_isSome 8 e.zone
    unfold namedDoor zone?
    cases hf : flag? e.enabled <;> cases hz : numbered 8 e.zone <;> simp_all

/-! ## Alarm codes and subjects -/

theorem alarmKind?_code (k : AlarmKind) : alarmKind? (ruledKindCode k) = some k := by cases k <;> rfl

theorem code_eq_ruled (k : AlarmKind) : k.code = ruledKindCode k := by cases k <;> rfl

theorem alarmKind?_out {n : Nat} (h : n = 0 ∨ 21 < n) : alarmKind? n = none := by
  rcases h with h | h
  · simp [h, alarmKind?]
  · simp [alarmKind?, alarmKinds]; omega

theorem numbered_eq_some {n k : Nat} {i : Fin n} : numbered n k = some i ↔ i.val + 1 = k := by
  unfold numbered
  split
  · rw [Option.some.injEq]
    constructor
    · rintro rfl; simp; omega
    · rintro rfl; rfl
  · have := i.isLt
    simp; omega

theorem port?_eq_some {n : Nat} {p : Port} : port? n = some p ↔ portCode p = n := by
  match n with
  | 0 | 1 | 2 | 3 => cases p <;> simp [port?, portCode]
  | n + 4 => cases p <;> simp [port?, portCode]

theorem portCode_eq_ruled (p : Port) : portCode p = ruledSubject (.port p) := by cases p <;> rfl

/-- Four subject bytes are read as the subject of the kind's form that they carry, and as none where there is none (R168, R173). -/
theorem subject?_eq_some_iff (k : AlarmKind) (n : Nat) (sub : Subject) :
    k.subject? n = some sub ↔ Carries k sub ∧ ruledSubject sub = n := by
  cases k <;> cases sub <;>
    simp [AlarmKind.subject?, Carries, ruledSubject, zone?, door?, numbered_eq_some, port?_eq_some, portCode_eq_ruled, tagOk] <;>
    omega

theorem carries_of_ruled (k : AlarmKind) (n : Nat) : (∀ sub, Carries k sub → ruledSubject sub ≠ n) ↔ k.subject? n = none := by
  rw [Option.eq_none_iff_forall_ne_some]
  exact ⟨fun h sub e => h sub ((subject?_eq_some_iff k n sub).1 e).1 ((subject?_eq_some_iff k n sub).1 e).2,
    fun h sub hc e => h sub ((subject?_eq_some_iff k n sub).2 ⟨hc, e⟩)⟩

/-! ## Byte layouts (R188) -/

theorem tempBytes_eq_ruled (t : Option Int) : tempBytes t = ruledTempBytes t := by cases t <;> rfl

theorem placeBytes_eq_ruled (w : Place) : placeBytes w = ruledPlaceBytes w := by cases w <;> rfl

theorem historyBytes_eq_ruled (h : List (Spot × Nat)) : historyBytes h = ruledHistoryBytes h := by
  unfold historyBytes ruledHistoryBytes
  have hx : ∀ x : Spot × Nat, spotBytes x.1 ++ u32 x.2 = (match x.1 with
      | .at w => ruledPlaceBytes w
      | .unresolved => [5, 0]) ++ u32 x.2 := by
    rintro ⟨w | _, n⟩
    · simp [spotBytes, placeBytes_eq_ruled]
    · rfl
  rw [funext hx] <;> rfl

/-- The transit part of a pallet record; its four route bytes are its zones, then zeros. -/
theorem transitBytes_eq_ruled (m : Transit) : transitBytes m =
    ruledPlaceBytes m.origin ++
    (match m.dest with
      | .lane l => [2, BitVec.ofNat 8 (l.val + 1)]
      | .bulk z => [3, BitVec.ofNat 8 (z.val + 1)]
      | .door d => [6, BitVec.ofNat 8 (d.val + 1)]) ++
    u8 m.route.length ++ (m.route.map (fun (z : ZoneId) => BitVec.ofNat 8 (z.val + 1)) ++ [0, 0, 0, 0]).take 4 ++
    u16 m.duration ++ u16 m.timer := by
  obtain ⟨origin, dest, r, duration, timer, overdue⟩ := m
  unfold transitBytes
  rw [placeBytes_eq_ruled]
  congr 3
  · rcases r with _ | ⟨a, _ | ⟨b, _ | ⟨c, _ | ⟨d, r⟩⟩⟩⟩ <;> rfl

theorem palletBytes_eq_ruled (c : ClassEntry) (p : Pallet) : palletBytes c p = ruledPalletBytes c.budget p := by
  have hb : (if p.account ≤ c.budget then c.budget - p.account else 0) = c.budget - p.account := by split <;> omega
  have hs : u8 p.status.code = u8 (match p.status with
      | .normal => 0
      | .warning => 1
      | .over => 2) := by cases p.status <;> rfl
  unfold palletBytes ruledPalletBytes
  rw [hb, hs, historyBytes_eq_ruled, tempBytes_eq_ruled]
  have hf : ∀ a b c d : Bool, u8 (bitsByte [a, b, c, d]) =
      u8 ((if a then 1 else 0) + (if b then 2 else 0) + if c then 4 + (if d then 8 else 0) else if d then 8 else 0) := by decide
  rw [hf]
  rcases h : p.location with w | m | _
  · simp [Pallet.transit?, h, locationBytes, placeBytes_eq_ruled] <;> rfl
  · simp [Pallet.transit?, h, locationBytes, transitBytes_eq_ruled] <;> rfl
  · simp [Pallet.transit?, h, locationBytes] <;> rfl

theorem departureBytes_eq_ruled (r : Departure) : departureBytes r = ruledDepartureBytes r.flagged r := by
  unfold departureBytes ruledDepartureBytes
  rw [historyBytes_eq_ruled, tempBytes_eq_ruled]
  cases r.verdict <;> cases r.estimated <;> cases r.flagged <;> simp [bitsByte, Verdict.code]

theorem alarmEntryBytes_eq_ruled (e : AlarmEntry) :
    alarmEntryBytes e = u8 (ruledKindCode e.kind + match e.state with
      | .activeUnacked => 0
      | .activeAcked => 64
      | .clearedUnacked => 128) ++
    u32 (ruledSubject e.subject) ++ u8 e.count ++ u32 e.first ++ u32 e.last := by
  have hs : subjectBytes e.subject = u32 (ruledSubject e.subject) := by
    rcases e.subject with _ | _ | _ | p | _ | _ <;> first | rfl | (cases p <;> rfl)
  unfold alarmEntryBytes
  rw [hs, code_eq_ruled, Nat.add_comm]
  cases e.state <;> rfl

theorem alarmListBytes_eq_ruled (s : State) (page : Nat) : alarmListBytes s page = ruledAlarmListBytes s page := by
  have he := funext alarmEntryBytes_eq_ruled
  unfold alarmListBytes ruledAlarmListBytes pageEntries
  rw [he]
  cases s.alarms.overflow <;> cases alarmOutput s <;> cases s.alarms.test.isSome <;> rfl

end Sys2Proof.Machine
end

