-- ==== Sys2Proof/Tests/Slice0.lean ====
section
/-! SUPPORT. The model's own tests: the well-formedness checks, each with a command they refuse; small worked events; and for every statement
of the certificate a state that meets its hypotheses. -/

namespace Sys2Proof.Tests.Slice0

open Sys2Proof.Machine

/-! ## Well-formedness: one ill-formed command for each check -/

def zoneFields : ZoneEntryOf Nat := { defaultZone with kind := 1 }
def doorFields : DoorEntryOf Nat Nat := { defaultDoor with enabled := 1, zone := 1 }
def setting (e : EntryParams) : Instr := .profileSet .plant 0 e

theorem test_wellFormed_accepts :
    ([setting (.zone zoneFields), setting (.door doorFields), setting (.lane ⟨1, 6⟩), setting (.cls defaultClass),
      setting (.global defaultGlobal), .conversionComplete 0 16383, .referenceCheck 16383 16383, .palletCharge 4294967295,
      .move .warehouse 1 6 24 [1, 2, 3, 4] 65535, .purge .warehouse [(0, 4294967295)],
      .startUp .torn, .mainPowerLoss .written, .saveEntryWrite (some .bad), .profileLoadComplete [(80, .erased)]].all Instr.wellFormed) = true := by decide

theorem test_wellFormed_refuses_each_zone_field :
    ([{ zoneFields with kind := 256 }, { zoneFields with setpoint := 32768 }, { zoneFields with setpoint := -32769 },
      { zoneFields with highWarn := 32768 }, { zoneFields with highAlarm := 32768 }, { zoneFields with lowAlarm := -32769 },
      { zoneFields with alarmDelay := 65536 }, { zoneFields with maxOpen := 65536 },
      { zoneFields with pumpdownTimeout := 65536 }, { zoneFields with maxHeat := 65536 },
      { zoneFields with termination := 65536 }, { zoneFields with dripTime := 65536 },
      { zoneFields with recoveryTime := 65536 }, { zoneFields with recoveryBand := 65536 },
      { zoneFields with maxDeferral := 65536 }, { zoneFields with airOffset := 32768 },
      { zoneFields with coilOffset := -32769 }, { zoneFields with airSpan := 65536 },
      { zoneFields with coilSpan := 65536 }].any fun e => (setting (.zone e)).wellFormed) = false := by decide

theorem test_wellFormed_refuses_each_other_field :
    ([.door { doorFields with enabled := 256 }, .door { doorFields with zone := 256 }, .door { doorFields with sealThreshold := 65536 },
      .door { doorFields with sealDelay := 65536 }, .door { doorFields with lossDelay := 65536 },
      .door { doorFields with maxOpenTime := 65536 }, .lane ⟨256, 1⟩, .lane ⟨1, 65536⟩,
      .cls { defaultClass with threshold := 32768 }, .cls { defaultClass with budget := 65536 },
      .cls { defaultClass with warnPercent := 256 }, .cls { defaultClass with reserve := 65536 },
      .cls { defaultClass with maxDwell := 65536 }, .global { defaultGlobal with accrualPeriod := 65536 },
      .global { defaultGlobal with maxConcurrent := 256 }, .global { defaultGlobal with silencePlant := 65536 },
      .global { defaultGlobal with silenceDoor := 65536 }, .global { defaultGlobal with silenceWarehouse := 65536 }].any
      fun e => (setting e).wellFormed) = false := by decide

theorem test_wellFormed_refuses_each_operand :
    ([.saveEntryWrite (some (.oneBit (.lane ⟨256, 1⟩))), .profileLoadComplete [(0, .oneBit (.lane ⟨256, 1⟩))],
      .profileLoadComplete [(81, .bad)], .profileLoadComplete [(0, .fits (.lane ⟨1, 65536⟩))], .conversionComplete 0 16384,
      .referenceCheck 16384 0, .referenceCheck 0 16384, .palletCharge 4294967296, .moveOverdueExpiry 4294967296,
      .timeSet .plant 4294967296, .zoneRead .plant 256, .doorRead .plant 256, .laneRead .plant 256, .palletRead .plant 4294967296,
      .defrostRead .plant 256, .alarmList .plant 256, .alarmAckOne .plant 256 0, .alarmAckOne .plant 1 4294967296,
      .profileRead .plant 256, .profileSet .plant 256 (.cls defaultClass), .saveEntryWrite (some (.fits (.lane ⟨256, 1⟩))),
      .portStatus .plant 256 0, .portStatus .plant 1 256, .defrostRequest .plant 256, .pumpdownDone .plant 256, .heatEnd .plant 256,
      .defrostAbort .plant 256, .trailerAssign .door 256 1 1, .trailerAssign .door 1 4294967296 1, .trailerAssign .door 1 1 256,
      .doorOpen .door 256, .doorClose .door 256, .trailerRelease .door 256, .arrive .warehouse 4294967296 0 1 0,
      .arrive .warehouse 1 256 1 0, .arrive .warehouse 1 0 256 0, .arrive .warehouse 1 0 1 4294967296,
      .move .warehouse 4294967296 2 1 [1] 0, .move .warehouse 1 256 1 [1] 0, .move .warehouse 1 2 256 [1] 0,
      .move .warehouse 1 2 1 [1, 1, 1, 1, 1] 0, .move .warehouse 1 2 1 [256] 0, .move .warehouse 1 2 1 [1] 65536,
      .moveDone .warehouse 4294967296, .moveCancel .warehouse 4294967296, .resolve .warehouse 4294967296 1 1,
      .resolve .warehouse 1 256 1, .resolve .warehouse 1 1 256, .disposeOverride .warehouse 4294967296,
      .disposeRemove .warehouse 4294967296, .purge .warehouse (List.replicate 32 (0, 0)), .purge .warehouse [(4294967296, 0)],
      .purge .warehouse [(0, 4294967296)], .manifestTake .warehouse 256, .manifestAccept .warehouse 256 1 0,
      .manifestAccept .warehouse 1 256 0, .manifestAccept .warehouse 1 1 256].any Instr.wellFormed) = false := by decide

/-! ## Small states -/

/-- The state a command leaves. -/
def after (c : Instr) (s : State) : State :=
  match exec c s with
  | .next t => t
  | _ => s

/-- Every zone a dock room that lets two doors open, every door in zone Z1, four places in every lane. -/
def dockProfile : Profile :=
  { Profile.default with
    zones := Bank.fill { defaultZone with kind := .dock, maxOpen := 2 }
    doors := Bank.fill { defaultDoor with enabled := true }
    lanes := Bank.fill ⟨0, 4⟩ }

/-- A running part with nothing in it, its sweep begun. -/
def quiet : State :=
  { State.cold with
    power := .running, profile := dockProfile, clock := 1000, converter := ⟨false, 0, true, 0⟩, exposure := ⟨some 10, 0, 900⟩ }

def inbound : Option Assignment := some ⟨7, .inbound⟩
def outbound : Option Assignment := some ⟨7, .outbound⟩

/-- Door D01 in a state with an assignment. -/
def doorIn (st : DoorState) (a : Option Assignment) : State := quiet.modDoor 0 fun r => { r with state := st, assignment := a }

/-- D01 OPEN with its permit. -/
def openDoor (a : Option Assignment) : State := setPermit 0 true (doorIn .opened a)

/-- A pallet of class 0 at a location. -/
def pallet (tag : Nat) (loc : Location) : Pallet :=
  { tag := tag, cls := 0, account := 100, residue := 30, status := .normal, overridden := false, estimated := false, peak := none,
    dwell := 0, arrived := 500, location := loc, moves := 0, history := [], charged := false }

def with1 (p : Pallet) (s : State) : State := s.setPallets [p]

/-- Unit Z1 in a state, its phase timer running; in the queue where the state is REQUESTED. -/
def unitIn (st : UnitState) : State :=
  (quiet.modUnit 0 fun u => { u with state := st, phase := ⟨true, 5⟩, deferral := ⟨st == .requested, 7⟩, heatPermit := st == .heat })
    |>.setDefrostQueue (if st = .requested then [0] else [])

/-- A station's entry, and the loop polling with a window open. -/
def loopAt (e : Station) (mode : LoopMode) (w : LoopWindow) (s : State) : State :=
  (s.putStation 0 e).setLoop { (s.putStation 0 e).loop with mode := mode, window := w }

def okStation : Station := ⟨.ok, 0, false, false⟩
def shut (pressure : Nat) : Report := ⟨true, true, .closed, pressure⟩
def reply (r : Report) (reset : Bool) : Option (List Byte) := some (replyBytes 1 r reset)

/-- The answer at a port has left the line, so that the port takes the next frame. -/
def sent (p : Port) (s : State) : State := after (.responseSent p) s

/-- A zone's fields as an edit carries them. -/
def fields (e : ZoneEntry) : ZoneEntryOf Nat := { e with kind := zoneKindCode e.kind }

/-- The keys of the Alarm List. -/
def keys (s : State) : List (AlarmKind × Subject) := s.alarms.entries.map AlarmEntry.key

/-- The answer that stands at a port. -/
def answered (p : Port) (s : State) : Option (Byte × Result) := (s.port p).response.map fun r => (r.code, r.result)

/-! ## The step, the frames and the reads -/

/-- The state a step leaves. -/
def stepped (s : State) : State :=
  match step s with
  | .next t => t
  | _ => s

theorem test_step_takes_the_front :
    let t := stepped { quiet with pending := [.dockClockTick, .backupSupplyLow] }
    (t.clock, t.pending) = (1001, [.backupSupplyLow]) := by decide

theorem test_step_counts_a_second_on_an_empty_queue :
    quiet.pending = [] ∧ quiet.power ≠ .off ∧ ((stepped quiet).port .plant).silence.count = 1 ∧
    stepped { quiet with power := .off } = { quiet with power := .off } := by decide

/-- Every timer of the part's own stands at a count that a second moves, or at its end. -/
def counting : State :=
  let s := (with1 (pallet 5 (.transit ⟨.bulk 0, .bulk 0, [0], 9, 65534, false⟩)) quiet).putZone 0
    { ZoneRecord.initial with air := ⟨.ok, 0, 0, [0], some 0, none⟩, high := ⟨.pending, 600⟩, low := ⟨.pending, 5⟩ }
  let t := (s.modDoor 0 fun r => { r with openTimer := ⟨true, 65535⟩, sealTimer := ⟨true, 1⟩, lossTimer := ⟨false, 2⟩ }).modUnit 0
    fun u => { u with state := .drip, phase := ⟨true, 5⟩, deferral := ⟨false, 7⟩ }
  { t with converter := ⟨false, 0, true, 60⟩, exposure := ⟨some 10, 9, 900⟩, loop := { t.loop with readdressing := true, attemptTimer := 2 },
           alarms := { t.alarms with test := some 1 } }

theorem test_second_counts_every_timer :
    let t := stepped counting
    t.converter.sinceCheck = 60 ∧ t.exposure.elapsed = 10 ∧ t.pallets.map (fun p => p.transit?.map Transit.timer) = [some 65535] ∧
    ((t.zones.get 0).high.timer, (t.zones.get 0).low.timer) = (600, 6) ∧ (t.doors.get 0).openTimer = ⟨true, 65535⟩ ∧
    (t.doors.get 0).sealTimer = ⟨true, 2⟩ ∧ (t.doors.get 0).lossTimer = ⟨false, 2⟩ ∧ t.loop.attemptTimer = 2 ∧
    (t.units.get 0).phase = ⟨true, 6⟩ ∧ (t.units.get 0).deferral = ⟨false, 7⟩ ∧ t.alarms.test = some 0 ∧
    (t.port .warehouse).silence = ⟨true, 1⟩ := by decide

theorem test_reset_runs_a_command : (after .dockClockTick State.reset).clock = 1 := by decide

theorem test_frame_ends_silence :
    let s := quiet.modPort .plant fun r => { r with silent := true, silence := ⟨false, 600⟩ }
    (s.port .plant).silent = true ∧ ((takeFrame .plant s).port .plant).silent = false ∧
    ((takeFrame .plant quiet).port .plant).responding = true := by decide

theorem test_frame_checks_in_order :
    Req.ofCode? 0x12 = none ∧ Req.ofCode? 0x31 = some .doorOpen ∧ Req.doorOpen.openTo .plant = false ∧
    State.reset.power ≠ .running ∧ Req.timeRead.early = false ∧ Req.zoneRead.openTo .plant = true ∧ (parse .zoneRead []).isNone ∧
    ((parse .zoneRead [1]).isSome = true) ∧
    answered .plant (dispatchBytes .plant 0x12 [] quiet) = some (0x12, .unknown) ∧
    answered .plant (dispatchBytes .plant 0x31 [] quiet) = some (0x31, .role) ∧
    answered .plant (dispatchBytes .plant 0x04 [] State.reset) = some (0x04, .busy) ∧
    answered .plant (dispatchBytes .plant 0x06 [] quiet) = some (0x06, .param) ∧
    answered .plant (dispatchBytes .plant 0x06 [1] quiet) = some (0x06, .ok) := by decide

theorem test_ports_are_ready :
    Ready .plant quiet ∧ Ready .door quiet ∧ Ready .warehouse quiet ∧ Hears .plant State.reset ∧ Takes .door .doorOpen quiet := by
  unfold Takes Ready Hears; decide

def late : State := quiet.modPort .plant fun r => { r with responding := true, silence := ⟨true, 9⟩ }

theorem test_request_rows_are_checked :
    request? (.poll .plant) = some (.plant, .poll) ∧ late.power ≠ .off ∧
    after (.poll .plant) late = late.modPort .plant (fun r => { r with overrunBit := true }) ∧
    answered .plant (after (.doorOpen .plant 1) quiet) = some (0x31, .role) ∧
    answered .plant (after (.timeRead .plant) State.reset) = some (0x04, .busy) ∧
    answered .plant (after (.poll .plant) State.reset) = some (0x01, .ok) ∧
    after (.poll .plant) { quiet with power := .off } = { quiet with power := .off } := by decide

theorem test_reads_refuse_beyond_the_edges :
    ([.zoneRead .plant 0, .zoneRead .plant 9, .doorRead .plant 0, .doorRead .plant 25, .laneRead .plant 0, .laneRead .plant 33,
      .defrostRead .plant 0, .defrostRead .plant 9, .palletRead .plant 0, .palletRead .plant 4294967295, .portStatus .plant 0 0,
      .portStatus .plant 4 0, .portStatus .plant 1 2].all fun c =>
        ((after c quiet).port .plant).response.map Response.result == some .param) = true := by decide

theorem test_identify_before_the_load :
    State.reset.power ≠ .off ∧ answered .plant (after (.identify .plant) State.reset) = some (0x03, .ok) ∧
    answered .plant (after (.portStatus .plant 3 0) State.reset) = some (0x11, .ok) := by decide

theorem test_reads_of_the_clock_and_the_list :
    answered .door (after (.timeRead .door) quiet) = some (0x04, .ok) ∧
    answered .door (after (.alarmList .door 2) quiet) = some (0x0B, .ok) ∧
    answered .door (after (.alarmList .door 3) quiet) = some (0x0B, .param) := by decide

theorem test_reads_at_the_edges :
    answered .plant (after (.zoneRead .plant 8) quiet) = some (0x06, .ok) ∧
    answered .plant (after (.zoneRead .plant 9) quiet) = some (0x06, .param) ∧
    answered .plant (after (.doorRead .plant 24) quiet) = some (0x07, .ok) ∧
    answered .plant (after (.laneRead .plant 32) quiet) = some (0x08, .ok) ∧
    answered .plant (after (.defrostRead .plant 1) quiet) = some (0x0A, .ok) ∧
    answered .plant (after (.profileRead .plant 80) quiet) = some (0x0E, .ok) ∧
    answered .plant (after (.profileRead .plant 81) quiet) = some (0x0E, .param) := by decide

theorem test_pallet_read :
    let s := with1 (pallet 5 (.at (.bulk 0))) quiet
    tagOk 5 = true ∧ findPallet s 5 = some (pallet 5 (.at (.bulk 0))) ∧
    answered .plant (after (.palletRead .plant 5) s) = some (0x09, .ok) ∧
    answered .plant (after (.palletRead .plant 6) s) = some (0x09, .notFound) := by decide

/-- The pallet record of R188, byte by byte: located in D02's trailer, and in transit from L03 to D01. -/
theorem test_pallet_read_bytes :
    let q : Pallet := { pallet 258 (.at (.trailer 1)) with
      cls := 3, account := 772, status := .warning, estimated := true, peak := some (-2), dwell := 5, arrived := 65537, moves := 9,
      history := [(.at (.lane 2), 7), (.unresolved, 8)] }
    let m := Location.transit ⟨.lane 2, .door 0, [0, 7], 95, 12, true⟩
    ruledPalletBytes 1000 q = [0, 0, 1, 2, 3, 3, 4, 30, 1, 2, 0xFF, 0xFE, 0, 5, 0, 1, 0, 1, 1, 2, 9, 0, 228, 2, 2, 3, 0, 0, 0, 7,
      5, 0, 0, 0, 0, 8] ∧
    ruledPalletBytes 700 { q with location := m, peak := none, history := [] } = [0, 0, 1, 2, 3, 3, 4, 30, 1, 14, 0x80, 0, 0, 5,
      0, 1, 0, 1, 4, 0, 9, 0, 0, 0, 2, 3, 6, 1, 2, 1, 8, 0, 0, 0, 95, 0, 12] ∧
    palletBytes (classEntry quiet 0) (pallet 5 m) = ruledPalletBytes 6000 (pallet 5 m) := by decide

/-! ## The Alarm List, the notices and the ports -/

def entry (st : AlarmState) : AlarmEntry := ⟨.zoneHigh, .zone 0, st, 1, 10, 10⟩
def eventEntry : AlarmEntry := ⟨.recoveryFail, .zone 0, .clearedUnacked, 255, 10, 10⟩
def listed (es : List AlarmEntry) (full : Bool) : State := quiet.setAlarms ⟨es, full, 65535, none⟩
def fullList : List AlarmEntry := (List.range 48).map fun i => ⟨.palletOver, .tag (i + 1), .activeUnacked, 1, 10, 10⟩

theorem test_raise_enters_at_the_tail :
    (raise .zoneHigh (.zone 0) quiet).alarms = ⟨[⟨.zoneHigh, .zone 0, .activeUnacked, 1, 1000, 1000⟩], false, 1, none⟩ ∧
    (raise .recoveryFail (.zone 0) quiet).alarms.entries.map AlarmEntry.state = [.clearedUnacked] := by decide

theorem test_raise_at_a_full_list :
    (listed fullList false).alarms.entries.length = 48 ∧
    (raise .zoneHigh (.zone 0) (listed fullList false)).alarms.overflow = true ∧
    (raise .zoneHigh (.zone 0) (listed fullList false)).alarms.seq = 0 ∧
    (raise .zoneHigh (.zone 0) (listed fullList true)).alarms = (listed fullList true).alarms := by decide

theorem test_raise_again :
    (raise .zoneHigh (.zone 0) (listed [entry .clearedUnacked] false)).alarms.entries =
      [⟨.zoneHigh, .zone 0, .activeUnacked, 2, 10, 1000⟩] ∧
    (raise .recoveryFail (.zone 0) (listed [eventEntry] false)).alarms.entries = [{ eventEntry with last := 1000 }] ∧
    (raise .zoneHigh (.zone 0) (listed [entry .activeAcked] false)).alarms.entries = [entry .activeAcked] := by decide

theorem test_clear_by_state :
    (clear .zoneHigh (.zone 0) (listed [entry .activeUnacked] false)).alarms.entries =
      [{ entry .clearedUnacked with last := 1000 }] ∧
    (clear .zoneHigh (.zone 0) (listed [entry .activeAcked] false)).alarms.entries = [] ∧
    (clear .zoneHigh (.zone 0) (listed [entry .clearedUnacked] false)).alarms.entries = [entry .clearedUnacked] ∧
    (clear .zoneHigh (.zone 1) (listed [entry .activeAcked] false)).alarms.entries = [entry .activeAcked] := by decide

theorem test_ack_one :
    AlarmsInv (listed [entry .activeUnacked] false) ∧ alarmKind? 2 = some .zoneHigh ∧
    AlarmKind.zoneHigh.subject? 1 = some (.zone 0) ∧
    (after (.alarmAckOne .plant 2 1) (listed [entry .activeUnacked] false)).alarms.entries = [entry .activeAcked] ∧
    (after (.alarmAckOne .plant 2 1) (listed [entry .clearedUnacked] false)).alarms.entries = [] ∧
    (after (.alarmAckOne .plant 2 1) (listed [entry .activeAcked] false)).alarms.entries = [entry .activeAcked] ∧
    answered .plant (after (.alarmAckOne .plant 2 2) (listed [entry .activeAcked] false)) = some (0x0C, .notFound) := by
  unfold AlarmsInv; decide

theorem test_ack_one_refuses_what_names_no_subject :
    ([.alarmAckOne .plant 0 0, .alarmAckOne .plant 22 0, .alarmAckOne .plant 2 0, .alarmAckOne .plant 2 9, .alarmAckOne .plant 6 1,
      .alarmAckOne .plant 7 25, .alarmAckOne .plant 12 4, .alarmAckOne .plant 13 0, .alarmAckOne .plant 13 4294967295,
      .alarmAckOne .plant 20 81].all fun c => answered .plant (after c quiet) == some (0x0C, .param)) = true ∧
    ([.alarmAckOne .plant 2 8, .alarmAckOne .plant 6 0, .alarmAckOne .plant 7 24, .alarmAckOne .plant 12 3,
      .alarmAckOne .plant 13 4294967294, .alarmAckOne .plant 20 80].all fun c =>
        answered .plant (after c quiet) == some (0x0C, .notFound)) = true := by decide

theorem test_alarm_codes_and_subjects :
    (ruledKindCode .zoneHigh, ruledSubject (.zone 7)) = (2, 8) ∧ Carries .zoneHigh (.zone 7) ∧ Carries .profileFault (.entry 80) ∧
    ¬ Carries .profileFault (.entry 81) ∧ ¬ Carries .doorBreach (.zone 0) ∧ Carries .palletOver (.tag 4294967294) ∧
    ¬ Carries .palletOver (.tag 0) := by unfold Carries; decide

theorem test_no_subject_of_a_zone_alarm_is_nine : ∀ sub, Carries .zoneHigh sub → ruledSubject sub ≠ 9 := by
  rintro (_ | z | _ | _ | _ | _) h <;> simp [Carries] at h
  revert z; decide

theorem test_alarm_list_bytes :
    ruledAlarmListBytes (listed [⟨.partySilent, .port .warehouse, .activeAcked, 3, 258, 65536⟩, entry .clearedUnacked] true) 0 =
      [2, 3, 0xFF, 0xFF, 2, 76, 0, 0, 0, 3, 3, 0, 0, 1, 2, 0, 1, 0, 0, 130, 0, 0, 0, 1, 1, 0, 0, 0, 10, 0, 0, 0, 10] ∧
    ruledAlarmListBytes (listed fullList false) 3 = [48, 2, 0xFF, 0xFF, 0] := by decide

theorem test_ack_all :
    (after (.alarmAckAll .plant) (listed [entry .activeUnacked, eventEntry] true)).alarms = ⟨[entry .activeAcked], false, 0, none⟩ := by
  decide

theorem test_alarm_test :
    alarmOutput quiet = false ∧ alarmOutput (after (.alarmTest .plant) quiet) = true ∧
    alarmOutput (after .alarmTestExpiry (after (.alarmTest .plant) quiet)) = false ∧
    alarmOutput (listed [entry .activeAcked] false) = false ∧ alarmOutput (listed [] true) = true := by decide

theorem test_poll_and_notice_mask :
    attention (after (.poll .plant) State.reset) .plant = false ∧ attention State.reset .plant = true ∧
    ((after (.poll .plant) State.reset).port .plant).response = some ⟨1, .ok, [0x20, 0x01]⟩ ∧
    ((after (.noticeMask .plant 1) (State.reset.setProfile dockProfile)).port .plant).enable = 0xE01F ∧
    ((after (.noticeMask .plant 1) quiet).port .plant).enable = 1 := by decide

theorem test_port_status_clears :
    let s := quiet.modPort .plant fun r => { r with crcBit := true, crcErrors := 255 }
    ((after (.portStatus .plant 1 1) s).port .plant).crcErrors = 0 ∧
    answered .plant (after (.portStatus .plant 2 1) s) = some (0x11, .param) := by decide

def rxIn (st : RxState) (length : Nat) (kept : List Byte) (late : Bool) : State :=
  quiet.modPort .plant fun r => { r with rx := ⟨st, length, kept, late⟩ }

theorem test_receiver_states :
    ((after (.receiveByte .plant 0xC3) quiet).port .plant).rx.state = .count ∧
    ((after (.receiveByte .plant 0xC2) quiet).port .plant).rx.state = .hunt ∧
    ((after (.receiveByte .plant 1) (rxIn .count 0 [] false)).port .plant).rx.state = .body ∧
    ((after (.receiveByte .plant 250) (rxIn .count 0 [] false)).port .plant).rx.length = 250 ∧
    ((after (.receiveByte .plant 0) (rxIn .count 0 [] false)).port .plant).lengthBit = true ∧
    ((after (.receiveByte .plant 251) (rxIn .count 0 [] false)).port .plant).lengthBit = true ∧
    ((after (.receiveByte .plant 6) (rxIn .body 2 [] false)).port .plant).rx.state = .body ∧
    ((after (.receiveByte .plant 6) (rxIn .body 2 [6] false)).port .plant).rx.state = .check := by decide

set_option maxRecDepth 8000 in
theorem test_receiver_judges_a_frame :
    crc8 [1, 1] = 0x7E ∧
    ((after (.receiveByte .plant 0x7E) (rxIn .check 1 [1] false)).port .plant).response = some ⟨1, .ok, [0x20, 0]⟩ ∧
    ((after (.receiveByte .plant 0x7F) (rxIn .check 1 [1] false)).port .plant).crcErrors = 1 ∧
    ((after (.receiveByte .plant 0x7E) (rxIn .check 1 [1] true)).port .plant).overrunBit = true := by decide

set_option maxRecDepth 8000 in
/-- The published check value of this polynomial and start, over the nine digits, not inverted. -/
theorem test_crc_check_value : crc8 [49, 50, 51, 52, 53, 54, 55, 56, 57] = 0x20 := by decide

theorem test_gap_and_response_sent :
    ((after (.gapTimerExpiry .plant) (rxIn .body 2 [] false)).port .plant).lengthBit = true ∧
    ((after (.gapTimerExpiry .plant) quiet).port .plant).lengthBit = false ∧
    ((after (.responseSent .plant) (after (.poll .plant) quiet)).port .plant).responding = false := by decide

set_option maxRecDepth 8000 in
theorem test_silence_expires :
    (quiet.port .plant).silence.running = true ∧
    (unitState (after (.silenceTimerExpiry .plant) (unitIn .heat)) 0 = .drip) ∧
    (unitState (after (.silenceTimerExpiry .plant) (unitIn .requested)) 0 = .idle) ∧
    (unitState (after (.silenceTimerExpiry .plant) (unitIn .pumpdown)) 0 = .idle) ∧
    (unitState (after (.silenceTimerExpiry .plant) (unitIn .recover)) 0 = .recover) ∧
    ((after (.silenceTimerExpiry .door) quiet).alarms.entries.map AlarmEntry.key = [(.partySilent, .port .door)]) := by decide

theorem test_plant_silence_empties_the_queue :
    let s := (unitIn .requested).modUnit 0 fun u => { u with urgent := true, deferred := true }
    let t := after (.silenceTimerExpiry .plant) (raise .defrostDeferred (.zone 0) s)
    t.defrostQueue = [] ∧ isUrgent t 0 = false ∧ keys t = [(.defrostDeferred, .zone 0), (.partySilent, .port .plant)] ∧
    (t.port .plant).silence = ⟨false, 10⟩ ∧
    ((after (.silenceTimerExpiry .plant) State.reset).port .plant).silence = ⟨false, 10⟩ ∧
    after (.silenceTimerExpiry .plant) (sent .plant t) = t := by decide

/-! ## Power, start-up and the profile -/

def retained : State := { with1 (pallet 5 (.at (.bulk 0))) quiet with store := ⟨Bank.fill .erased, some 3⟩ }

set_option maxRecDepth 8000 in
theorem test_power_loss :
    (after (.mainPowerLoss .torn) retained).pallets = retained.pallets ∧
    (after (.mainPowerLoss .torn) retained).store.entries.get 3 = .bad ∧
    (after (.mainPowerLoss .written) retained).store.entries.get 3 = .fits (retained.profile.params (entryId 3)) ∧
    (after (.mainPowerLoss .kept) retained).store = ⟨Bank.fill .erased, none⟩ ∧
    (after (.mainPowerLoss .kept) { quiet with power := .off }).power = .off ∧
    (after .backupSupplyLow { quiet with power := .off }).marker = false ∧ (after .backupSupplyLow quiet).marker = true := by decide

set_option maxRecDepth 8000 in
theorem test_start_up :
    (after (.startUp .kept) { retained with power := .off, marker := false }).pallets = [] ∧
    (after (.startUp .kept) { retained with power := .off }).pallets = retained.pallets ∧
    (after (.startUp .kept) { retained with power := .off }).report.kept = true ∧
    (after (.startUp .torn) retained).store.entries.get 3 = .bad ∧ (after (.startUp .torn) retained).store.entries.get 4 = .erased := by
  decide

def loading : State := { with1 (pallet 5 (.at (.bulk 0))) quiet with power := .loading, exposure := ⟨none, 0, 900⟩ }

set_option maxRecDepth 8000 in
theorem test_load_judges_an_entry :
    let k := fun e => (loadEntry (.lane 0) e .default).2
    k .erased = .blank ∧ k .bad = .defaulted ∧ k (.fits (.lane ⟨1, 24⟩)) = .loaded ∧ k (.fits (.lane ⟨1, 25⟩)) = .defaulted ∧
    k (.oneBit (.lane ⟨8, 0⟩)) = .corrected ∧ k (.oneBit (.lane ⟨9, 0⟩)) = .defaulted ∧ k (.fits (.cls defaultClass)) = .defaulted := by
  decide

set_option maxRecDepth 20000 in
/-- A torn entry stays torn whatever the load reads (R193), and a single-bit error stays with its entry (R194). -/
theorem test_errors_stay_in_the_store :
    let torn := { quiet with power := .loading, store := ⟨((Bank.fill .erased).put 32 .bad).put 33 (.oneBit (.lane ⟨2, 3⟩)), none⟩ }
    let t := completeLoad [(32, .fits (.lane ⟨1, 1⟩)), (33, .fits (.lane ⟨1, 1⟩))] torn
    keys t = [(.profileFault, .entry 32)] ∧ t.report.corrected = 1 ∧ laneEntry t 0 = defaultLane ∧ laneEntry t 1 = ⟨1, 3⟩ ∧
    ReadsAs .bad (some .erased) .bad ∧ ReadsAs (.oneBit (.lane ⟨2, 3⟩)) (some .bad) .bad := by
  unfold ReadsAs; decide

theorem test_named_values :
    NamesDefined (.lane 0) (.lane ⟨8, 24⟩) ∧ ¬ NamesDefined (.lane 0) (.lane ⟨9, 0⟩) ∧ ¬ NamesDefined (.lane 0) (.lane ⟨0, 0⟩) ∧
    ¬ NamesDefined (.lane 0) (.cls defaultClass) ∧ NamesDefined (.zone 0) (.zone zoneFields) ∧
    ¬ NamesDefined (.zone 0) (.zone { zoneFields with kind := 5 }) ∧ NamesDefined (.door 0) (.door doorFields) ∧
    ¬ NamesDefined (.door 0) (.door { doorFields with enabled := 2 }) ∧ LimitsOrdered (.zone zoneFields) ∧
    ¬ LimitsOrdered (.zone { zoneFields with setpoint := -180 }) := by
  unfold NamesDefined LimitsOrdered; decide

set_option maxRecDepth 8000 in
theorem test_load_completes :
    loading.power = .loading ∧ loading.loop.window = .idle ∧
    (completeLoad [] loading).power = .running ∧ (completeLoad [] loading).loop.window = .assign 0 ∧
    (completeLoad [] loading).report.blank = 81 := by decide

/-- A store whose first zone, door and lane are set, as read at the load. -/
def reads : List (Nat × StoredEntry) :=
  [(0, .fits (.zone (fields { defaultZone with kind := .dock }))), (1, .oneBit (.zone (fields { defaultZone with kind := .unused }))),
   (8, .fits (.door doorFields)), (9, .bad), (32, .fits (.lane ⟨1, 1⟩)), (33, .fits (.lane ⟨2, 0⟩))]

/-- Pallets in transit, in a lane beyond its capacity, in a lane and a store of an UNUSED zone, and aboard a door in and out of
service. -/
def stocked : State :=
  (loading.setPallets [pallet 1 (.transit ⟨.bulk 0, .bulk 0, [0, 1], 9, 3, false⟩), pallet 2 (.at (.lane 0)), pallet 3 (.at (.lane 0)),
    pallet 4 (.at (.lane 1)), pallet 5 (.at (.bulk 1)), pallet 6 (.at (.trailer 0)), pallet 7 (.at (.trailer 1)), pallet 8 .unresolved])
  |>.setLanes (((Bank.fill []).put 0 [3, 2]).put 1 [4])

set_option maxRecDepth 20000 in
theorem test_load_starts_every_block :
    let t := completeLoad reads stocked
    t.pallets.map Pallet.location = [.unresolved, .at (.lane 0), .at (.lane 0), .unresolved, .unresolved, .at (.trailer 0), .unresolved,
      .unresolved] ∧
    t.pallets.map (fun p => p.history.length) = [1, 0, 0, 1, 1, 0, 1, 0] ∧
    (t.lanes.get 0, t.lanes.get 1) = ([3, 2], []) ∧ (laneEntry t 0).capacity = 2 ∧
    (t.port .plant).pending &&& NoticeKind.profileChanged.bit = NoticeKind.profileChanged.bit ∧
    doorState t 0 = .lost ∧ doorState t 1 = .disabled ∧ keys t = [(.profileFault, .entry 9)] := by decide

set_option maxRecDepth 20000 in
theorem test_load_keeps_what_it_read :
    let t := completeLoad reads stocked
    t.store.entries.get 9 = .bad ∧ t.store.entries.get 1 = .oneBit (.zone (fields { defaultZone with kind := .unused })) ∧
    t.store.entries.get 2 = .erased ∧ (t.report.loaded, t.report.corrected, t.report.blank, t.report.defaulted) = (4, 1, 75, 1) := by decide

set_option maxRecDepth 20000 in
theorem test_catch_up_temperatures :
    (stocked.pallets.map Pallet.tag).Nodup ∧
    (completeLoad reads stocked).pallets.map Pallet.peak = List.replicate 8 (some (-150)) ∧
    cut 501 = 500 ∧ cut (-501) = -500 := by decide

set_option maxRecDepth 8000 in
theorem test_catch_up_charges :
    (loading.pallets.map Pallet.tag).Nodup ∧ outageOf loading = 100 ∧
    (findPallet (completeLoad [] loading) 5).map Pallet.account = some (100 + (30 + 30 * 100) / 60) ∧
    (findPallet (completeLoad [] loading) 5).map Pallet.estimated = some true ∧
    (findPallet (completeLoad [] { loading with clock := 900 }) 5).map Pallet.account = some 100 := by decide

set_option maxRecDepth 8000 in
/-- R43: the conditions that stand after the catch-up are raised, and the change of status is posted. -/
theorem test_catch_up_raises :
    let s := loading.setPallets [{ pallet 5 .unresolved with account := 5990 }, { pallet 6 .unresolved with dwell := 1801 }]
    let t := completeLoad [] s
    keys t = [(.palletOver, .tag 5), (.dwellExceeded, .tag 6)] ∧ t.pallets.map Pallet.status = [.over, .normal] ∧
    (t.port .warehouse).pending &&& NoticeKind.palletStatus.bit = NoticeKind.palletStatus.bit := by decide

theorem test_dock_clock :
    (after .dockClockTick { quiet with clock := 4294967295 }).clock = 0 ∧
    (after (.timeSet .plant 4294967295) quiet).exposure.lastStamp = 4294967295 ∧
    (after (.timeSet .plant 0) quiet).clockValid = true := by decide

theorem test_profile_set :
    answered .plant (after (.profileSet .plant 32 (.cls defaultClass)) quiet) = some (0x0F, .param) ∧
    answered .plant (after (.profileSet .plant 32 (.lane ⟨9, 1⟩)) quiet) = some (0x0F, .param) ∧
    answered .plant (after (setting (.zone { zoneFields with kind := 5 })) quiet) = some (0x0F, .param) ∧
    answered .plant (after (.profileSet .plant 8 (.door { doorFields with enabled := 2 })) quiet) = some (0x0F, .param) ∧
    answered .plant (after (.profileSet .plant 32 (.lane ⟨1, 24⟩)) quiet) = some (0x0F, .ok) ∧
    answered .plant (after (.profileSet .plant 32 (.lane ⟨1, 25⟩)) quiet) = some (0x0F, .clamped) ∧
    answered .plant (after (.profileSet .plant 32 (.lane ⟨1, 24⟩)) (quiet.setStore ⟨Bank.fill .erased, some 0⟩)) = some (0x0F, .busy) ∧
    answered .plant (after (setting (.zone { zoneFields with setpoint := -180 })) quiet) = some (0x0F, .param) ∧
    answered .plant (after (setting (.zone zoneFields)) quiet) = some (0x0F, .inUse) := by decide

theorem test_clamps_at_both_ends :
    clampParams (.lane ⟨1, 25⟩) = .lane ⟨1, 24⟩ ∧
    clampParams (.door ⟨1, 1, 2001, 0, 11, 241⟩) = .door ⟨1, 1, 2000, 1, 10, 240⟩ ∧
    clampParams (.cls ⟨101, 60001, 100, 60001, 0⟩) = .cls ⟨100, 60000, 99, 60000, 1⟩ ∧
    clampParams (.cls ⟨-501, 0, 49, 5, 241⟩) = .cls ⟨-500, 1, 50, 1, 240⟩ ∧
    clampParams (.global ⟨4, 5, 1, 61, 60⟩) = .global ⟨5, 4, 2, 60, 60⟩ := by decide

/-- Every zone a dock but Z8, which nothing uses and which is of the given kind. -/
def spare (k : ZoneKind) (s : State) : State :=
  s.setProfile { dockProfile with zones := dockProfile.zones.put 7 { defaultZone with kind := k } }

theorem test_edits_refused_in_use :
    let zoneTo := fun (z : ZoneId) (s : State) =>
      editRefusal s { s.profile with zones := s.profile.zones.put z { defaultZone with kind := .blast } } (.zone z)
    let doorTo := fun (e : DoorEntry) (s : State) => editRefusal s { s.profile with doors := s.profile.doors.put 0 e } (.door 0)
    let laneTo := fun (e : LaneEntry) (s : State) => editRefusal s { s.profile with lanes := s.profile.lanes.put 0 e } (.lane 0)
    zoneTo 0 quiet = some .inUse ∧ zoneTo 7 quiet = none ∧ zoneTo 7 (with1 (pallet 5 (.at (.bulk 7))) quiet) = some .inUse ∧
    zoneTo 7 (quiet.modUnit 7 fun u => { u with state := .recover }) = some .inUse ∧
    doorTo defaultDoor (doorIn .docked none) = some .inUse ∧ doorTo defaultDoor (doorIn .lost none) = none ∧
    laneTo ⟨0, 0⟩ (quiet.putLane 0 [5]) = some .inUse ∧ laneTo ⟨1, 1⟩ (quiet.putLane 0 [5]) = some .inUse ∧
    laneTo ⟨0, 1⟩ (quiet.putLane 0 [5]) = none ∧ laneTo ⟨7, 1⟩ (spare .unused quiet) = some .param ∧
    editRefusal ((unitIn .heat).modUnit 1 fun u => { u with state := .drip })
      { dockProfile with global := { defaultGlobal with maxConcurrent := 1 } } .global = some .inUse := by decide

theorem test_zone_kind_edit :
    let hot := (spare .freezer quiet).putZone 7 { ZoneRecord.initial with
      air := ⟨.fault, 3, 2, [], some 50, none⟩, high := ⟨.active, 600⟩ }
    let s := raise .airProbeFault (.zone 7) (raise .zoneHigh (.zone 7) hot)
    let t := after (.profileSet .plant 7 (.zone (fields { defaultZone with kind := .unused }))) s
    answered .plant t = some (0x0F, .ok) ∧ t.zones.get 7 = .initial ∧
    t.alarms.entries.map AlarmEntry.state = [.clearedUnacked, .clearedUnacked] ∧
    ((after (.profileSet .plant 7 (.zone (fields { defaultZone with kind := .dock })))
      (hot.setProfile (spare .unused quiet).profile)).zones.get 7) = .initial := by decide

def dockZone : ZoneEntry := { defaultZone with kind := .dock, maxOpen := 2 }

/-- Zone Z1's entry edited to `e`. -/
def zoneSet (e : ZoneEntry) (s : State) : State := after (.profileSet .plant 0 (.zone (fields e))) s

theorem test_zone_limit_edit :
    let s := quiet.putZone 0 { ZoneRecord.initial with air := ⟨.ok, 0, 0, [-100], some (-100), none⟩, high := ⟨.pending, 9⟩ }
    (s.port .plant).responding = false ∧ ((zoneSet { dockZone with alarmDelay := 30 } s).zones.get 0).high = ⟨.pending, 0⟩ ∧
    ((zoneSet { dockZone with highAlarm := -100 } s).zones.get 0).high = ⟨.quiet, 0⟩ ∧
    ((zoneSet { dockZone with maxHeat := 31 } s).zones.get 0).high = ⟨.pending, 9⟩ := by decide

/-- Unit Z1 with its phase and deferral at a count. -/
def phaseAt (n : Nat) (st : UnitState) : State :=
  (unitIn st).modUnit 0 fun u => { u with phase := ⟨true, n⟩, deferral := ⟨u.deferral.running, n⟩ }

theorem test_zone_edit_ends_phases :
    let at_ := fun (e : ZoneEntry) (s : State) => unitState (zoneSet e s) 0
    at_ { dockZone with pumpdownTimeout := 30 } (phaseAt 30 .pumpdown) = .idle ∧
    keys (zoneSet { dockZone with pumpdownTimeout := 30 } (phaseAt 30 .pumpdown)) = [(.pumpdownTimeout, .zone 0)] ∧
    at_ { dockZone with pumpdownTimeout := 31 } (phaseAt 30 .pumpdown) = .pumpdown ∧
    at_ { dockZone with maxHeat := 5 } (phaseAt 300 .heat) = .drip ∧
    at_ { dockZone with dripTime := 1 } (phaseAt 60 .drip) = .recover ∧
    at_ { dockZone with recoveryTime := 5 } (phaseAt 300 .recover) = .idle ∧
    isUrgent (zoneSet { dockZone with maxDeferral := 1 } ((phaseAt 60 .requested).modDoor 0 fun r => { r with forced := true })) 0 =
      true := by decide

def coilOver (s : State) : State := s.putZone 0 { ZoneRecord.initial with coil := ⟨.ok, 0, 0, [90], some 90, none⟩ }

theorem test_zone_edit_ends_phases_by_a_probe :
    let cold := fun (s : State) => s.putZone 0 { ZoneRecord.initial with air := ⟨.ok, 0, 0, [-190], some (-190), none⟩ }
    ((zoneSet { dockZone with termination := 90 } (coilOver (phaseAt 9 .heat))).units.get 0).lastCause = some .temperature ∧
    unitState (zoneSet { dockZone with termination := 91 } (coilOver (phaseAt 9 .heat))) 0 = .heat ∧
    unitState (zoneSet { dockZone with recoveryBand := 30 } (cold (phaseAt 9 .recover))) 0 = .idle ∧
    unitState (zoneSet { dockZone with recoveryBand := 29 } (cold (phaseAt 9 .recover))) 0 = .recover ∧
    keys (zoneSet { dockZone with recoveryTime := 5, recoveryBand := 29 } (cold (phaseAt 300 .recover))) =
      [(.recoveryFail, .zone 0)] := by decide

/-- Door D01's entry edited to `e`. -/
def doorSet (e : DoorEntryOf Nat Nat) (s : State) : State := after (.profileSet .plant 8 (.door e)) s

set_option maxRecDepth 8000 in
theorem test_door_service_edit :
    let off := (doorIn .disabled none).setProfile { dockProfile with doors := Bank.fill defaultDoor }
    let s := with1 (pallet 5 (.at (.trailer 0))) (doorIn .lost inbound)
    doorState (doorSet doorFields off) 0 = .lost ∧ ((doorSet doorFields off).doors.get 0).view.stale = true ∧
    doorState (doorSet { doorFields with enabled := 0 } s) 0 = .disabled ∧
    (doorSet { doorFields with enabled := 0 } s).pallets.map Pallet.location = [.unresolved] := by decide

set_option maxRecDepth 8000 in
theorem test_door_timing_edit :
    let timed := fun (st : DoorState) => setPermit 0 (st == .opened) (quiet.modDoor 0 fun r => { r with
      state := st, sealTimer := ⟨st == .sealing, 3⟩, lossTimer := ⟨st != .sealing, 1⟩, openTimer := ⟨st == .opened, 60⟩ })
    doorState (doorSet { doorFields with sealDelay := 3 } (timed .sealing)) 0 = .sealed ∧
    doorState (doorSet { doorFields with lossDelay := 1 } (timed .sealed)) 0 = .docked ∧
    ((doorSet { doorFields with lossDelay := 1 } (timed .sealed)).doors.get 0).dockedAt = some 1000 ∧
    doorState (doorSet { doorFields with lossDelay := 1, maxOpenTime := 1 } (timed .opened)) 0 = .breach ∧
    keys (doorSet { doorFields with lossDelay := 1, maxOpenTime := 1 } (timed .opened)) = [(.doorBreach, .door 0)] ∧
    keys (doorSet { doorFields with maxOpenTime := 1 } (timed .opened)) = [(.doorOpenLong, .door 0)] ∧
    doorState (doorSet { doorFields with sealDelay := 4 } (timed .sealing)) 0 = .sealing := by decide

/-- The loop polls, D01's station lost at the end of its index and every other found. -/
def oneMissing (enabled : Bool) : State :=
  let s := (quiet.setProfile { dockProfile with doors := Bank.fill { defaultDoor with enabled := enabled } }).modDoor 0
    fun r => { r with state := if enabled then .lost else .disabled }
  s.setLoop { s.loop with
    mode := .polling, stations := (Bank.fill okStation).put 0 ⟨.notFound, 0, false, enabled⟩, readdressing := enabled,
    breakIndex := if enabled then some 0 else none }

set_option maxRecDepth 8000 in
theorem test_door_edit_judges_the_loop :
    let gone := doorSet { doorFields with enabled := 0 } (raise .stationLost (.door 0) (oneMissing true))
    let back := doorSet doorFields (oneMissing false)
    gone.loop.readdressing = false ∧ gone.loop.breakIndex = none ∧ gone.alarms.entries.map AlarmEntry.state = [.clearedUnacked] ∧
    back.loop.readdressing = true ∧ keys back = [(.stationLost, .door 0)] := by decide

/-- An attempt under way. -/
def underWay : State := (oneMissing true).setLoop { (oneMissing true).loop with window := .rePoll 0 }

set_option maxRecDepth 8000 in
/-- R129: an attempt ends where an edit makes re-addressing inactive, also where the next edit makes it active again before its reply
window closes: the reply is not judged. -/
theorem test_attempt_ends_with_readdressing :
    let off := doorSet { doorFields with enabled := 0 } underWay
    let on := doorSet doorFields (sent .plant off)
    let t := after (.readdressReplyWindow (reply (shut 400) false)) on
    off.loop.window = .ended ∧ off.loop.readdressing = false ∧ on.loop.readdressing = true ∧ on.loop.window = .ended ∧
    t.loop.window = .idle ∧ t.loop.sent = [] ∧ (stationOf t 0).state = .notFound ∧ (after .loopPollSend on) = on ∧
    (after (.readdressReplyWindow (reply (shut 400) false)) (off.setLoop { off.loop with mode := .addressing })).loop.window =
      .assign 0 := by decide

theorem test_lane_edit_is_the_entry_alone :
    let t := after (.profileSet .plant 32 (.lane ⟨2, 7⟩)) quiet
    laneEntry t 0 = ⟨1, 7⟩ ∧ t.lanes = quiet.lanes ∧ keys t = [] := by decide

theorem test_class_edit :
    let edit := fun (e : ClassEntry) (p : Pallet) => after (.profileSet .plant 64 (.cls e)) (with1 p quiet)
    let spoiled := { pallet 5 (.at (.bulk 0)) with status := .over, dwell := 1801 }
    ((with1 spoiled quiet).pallets.map Pallet.tag).Nodup ∧
    (edit { defaultClass with budget := 100, reserve := 0 } (pallet 5 (.at (.bulk 0)))).pallets.map Pallet.status = [.over] ∧
    keys (edit { defaultClass with budget := 100, reserve := 0 } (pallet 5 (.at (.bulk 0)))) = [(.palletOver, .tag 5)] ∧
    keys (edit { defaultClass with maxDwell := 1 } { pallet 5 (.at (.bulk 0)) with dwell := 61 }) = [(.dwellExceeded, .tag 5)] ∧
    (edit defaultClass spoiled).pallets.map Pallet.status = [.normal] := by decide

set_option maxRecDepth 8000 in
theorem test_global_edit :
    let quieter := ((unitIn .heat).modPort .door fun r => { r with silence := ⟨true, 120⟩ })
    let t := after (.profileSet .plant 80 (.global { defaultGlobal with silenceDoor := 2 })) quieter
    let u := after (.profileSet .door 80 (.global { defaultGlobal with silencePlant := 2 }))
      ((unitIn .heat).modPort .plant fun r => { r with silence := ⟨true, 120⟩ })
    (t.port .door).silence = ⟨false, 120⟩ ∧ keys t = [(.partySilent, .port .door)] ∧ unitState t 0 = .heat ∧
    unitState u 0 = .drip ∧ (u.port .door).silent = false := by decide

theorem test_save :
    (after (.profileSave .plant) quiet).store.saving = some 0 ∧
    answered .plant (after (.profileSave .plant) (sent .plant (after (.profileSave .plant) quiet))) = some (0x10, .busy) ∧
    (after (.saveEntryWrite none) (after (.profileSave .plant) quiet)).store.saving = some 1 ∧
    keys (after (.saveEntryWrite none) (after (.profileSave .plant) quiet)) = [] ∧
    keys (after (.saveEntryWrite (some (.fits (quiet.profile.params (entryId 0))))) (after (.profileSave .plant) quiet)) = [] ∧
    keys (after (.saveEntryWrite (some (.oneBit (quiet.profile.params (entryId 0))))) (after (.profileSave .plant) quiet)) =
      [(.profileFault, .entry 0)] ∧
    (after (.saveEntryWrite (some .bad)) (quiet.setStore ⟨Bank.fill .erased, some 80⟩)).store = ⟨(Bank.fill .erased).put 80 .bad, none⟩ := by
  decide

theorem test_profile_bytes_read_back :
    (EntryParams.zone zoneFields).fieldsOk = true ∧
    readParams (.zone 7) (paramsBytes (.zone zoneFields)) = some (.zone zoneFields) ∧
    readParams .global (paramsBytes (.global defaultGlobal)) = some (.global defaultGlobal) := by decide

/-! ## Probes, conditions and exposure -/

theorem test_conversion_classes :
    classify false 1000 0 255 = .short ∧ classify false 1000 0 256 = .range ∧ classify false 1000 0 16127 = .range ∧
    classify false 1000 0 16128 = .openCircuit ∧ classify true 1000 0 8192 = .reference ∧
    classify false 1000 0 8192 = .good 0 ∧ classify false 1000 0 12288 = .good 500 ∧ classify false 1000 1 12288 = .range ∧
    classify false 1000 0 8196 = .good 0 ∧ classify false 1024 0 8196 = .good 1 := by decide

theorem test_conversion_reaches_its_probe :
    ((after (.conversionComplete 0 8192) quiet).zones.get 0).air.filtered = some 0 ∧
    (((after (.conversionComplete 0 8192) quiet).port .plant).pending &&& NoticeKind.zoneChange.bit) = NoticeKind.zoneChange.bit ∧
    ((after (.conversionComplete 1 8192) quiet).port .plant).pending &&& NoticeKind.zoneChange.bit = 0 ∧
    ((after (.conversionComplete 1 8192) quiet).zones.get 0).coil.filtered = some 0 ∧
    ((after (.conversionComplete 0 8192) { quiet with converter := ⟨false, 0, false, 0⟩ }).zones.get 0).air.last = none := by decide

def probe (st : ProbeState) (bad good : Nat) (h : List Int) : Probe := ⟨st, bad, good, h, some 3, none⟩

theorem test_probe_machine :
    ((probe .ok 0 0 [1, 2, 3, 4]).take (.good 7)).filtered = some 4 ∧ ((probe .suspect 2 0 [1]).take (.good 2)).state = .ok ∧
    ((probe .fault 0 2 []).take (.good 2)).good = 3 ∧ ((probe .fault 0 3 [5]).take (.good 2)).state = .ok ∧
    ((probe .ok 0 0 []).take .short).bad = 1 ∧ ((probe .suspect 1 0 []).take .range).state = .suspect ∧
    ((probe .suspect 2 0 []).take .reference).state = .fault ∧ ((probe .fault 0 3 [5]).take .openCircuit).good = 0 := by decide

theorem test_reference_check :
    (after (.referenceCheck 4032 12352) quiet).converter.fault = false ∧ (after (.referenceCheck 4031 12352) quiet).converter.fault = true ∧
    (after (.referenceCheck 4160 12224) (quiet.setConverter ⟨true, 0, true, 9⟩)).converter = ⟨true, 1, true, 0⟩ ∧
    (after (.referenceCheck 4160 12224) (quiet.setConverter ⟨true, 1, true, 9⟩)).converter = ⟨false, 0, true, 0⟩ ∧
    (after (.referenceCheck 4160 12223) (quiet.setConverter ⟨true, 1, true, 9⟩)).converter = ⟨true, 0, true, 0⟩ := by decide

def airAt (t : Int) (high : Condition) (s : State) : State :=
  s.putZone 0 { ZoneRecord.initial with air := ⟨.ok, 0, 0, [t], some t, none⟩, high := high }

theorem test_conditions_follow_the_air :
    ((after (.conversionComplete 0 8192) (airAt (-300) ⟨.quiet, 0⟩ quiet)).zones.get 0).high = ⟨.quiet, 0⟩ ∧
    ((after (.conversionComplete 0 8192) (airAt (-299) ⟨.quiet, 0⟩ quiet)).zones.get 0).high = ⟨.quiet, 0⟩ ∧
    ((after (.conversionComplete 0 8192) (airAt (-297) ⟨.quiet, 0⟩ quiet)).zones.get 0).high = ⟨.pending, 0⟩ ∧
    ((after (.conversionComplete 0 5570) (airAt (-320) ⟨.active, 600⟩ quiet)).zones.get 0).high.state = .quiet := by decide

theorem test_conditions_freeze_and_end :
    let hot := airAt (-320) ⟨.active, 600⟩ quiet
    let s := raise .zoneHigh (.zone 0) (hot.putZone 0 { hot.zones.get 0 with highWarn := ⟨.pending, 9⟩ })
    let blind := s.putZone 0 { s.zones.get 0 with air := ⟨.suspect, 2, 0, [], some 50, none⟩ }
    (after (.conversionComplete 0 5570) s).alarms.entries.map AlarmEntry.state = [.clearedUnacked] ∧
    ((after (.conversionComplete 0 5570) s).port .plant).pending &&& NoticeKind.zoneChange.bit = NoticeKind.zoneChange.bit ∧
    ((after (.conversionComplete 0 0) blind).zones.get 0).air.state = .fault ∧
    ((after (.conversionComplete 0 0) blind).zones.get 0).high = ⟨.active, 600⟩ ∧
    ((after (.conversionComplete 0 0) blind).zones.get 0).highWarn = ⟨.pending, 9⟩ := by decide

theorem test_recovery_at_an_air_sample :
    unitState (after (.conversionComplete 0 6550) (unitIn .recover)) 0 = .idle ∧
    unitState (after (.conversionComplete 0 6570) (unitIn .recover)) 0 = .recover := by decide

theorem test_condition_timer :
    ((after (.conditionTimerExpiry 0 .high) (airAt 0 ⟨.pending, 9⟩ quiet)).zones.get 0).high = ⟨.active, 600⟩ ∧
    ((after (.conditionTimerExpiry 0 .high) (airAt 0 ⟨.quiet, 0⟩ quiet)).zones.get 0).high = ⟨.quiet, 0⟩ ∧
    ((after (.conditionTimerExpiry 0 .high) (airAt 0 ⟨.pending, 0⟩ (unitIn .drip))).zones.get 0).high = ⟨.pending, 0⟩ := by decide

theorem test_charge_of_one_record :
    let s := airAt 34 ⟨.quiet, 0⟩ quiet
    (chargedPallet s 10 (pallet 5 (.at (.bulk 0)))).account = 100 + (30 + 214 * 10) / 60 ∧
    (chargedPallet s 10 (pallet 5 (.at (.lane 0)))).peak = some 34 ∧
    (chargedPallet s 10 (pallet 5 (.at (.trailer 0)))).account = 100 ∧
    (chargedPallet (s.modDoor 0 fun r => { r with state := .closing }) 10 (pallet 5 (.at (.trailer 0)))).peak = some 34 ∧
    (chargedPallet (s.modDoor 0 fun r => { r with state := .breach }) 10 (pallet 5 (.at (.trailer 0)))).estimated = true ∧
    (chargedPallet s 10 (pallet 5 .unresolved)).peak = some (-150) ∧
    (chargedPallet s 10 (pallet 5 (.transit ⟨.bulk 1, .bulk 0, [1, 0], 5, 0, false⟩))).peak = some 34 ∧
    (chargedPallet s 10 { pallet 5 (.at (.bulk 0)) with account := 65534 }).residue = 0 := by decide

theorem test_dwell_grows_on_the_dock_side :
    let s := spare .freezer quiet
    DwellGrows s (.at (.bulk 0)) ∧ ¬ DwellGrows s (.at (.bulk 7)) ∧ DwellGrows s (.at (.trailer 0)) ∧ DwellGrows s (.at (.lane 0)) ∧
    DwellGrows s (.transit ⟨.bulk 7, .bulk 7, [7, 0], 5, 0, false⟩) ∧ ¬ DwellGrows s (.transit ⟨.bulk 7, .bulk 7, [7], 5, 0, false⟩) ∧
    ¬ DwellGrows s .unresolved ∧ (chargedPallet s 10 (pallet 5 (.at (.bulk 7)))).dwell = 0 ∧
    (chargedPallet s 10 { pallet 5 (.at (.trailer 0)) with dwell := 65530 }).dwell = 65535 := by
  unfold DwellGrows; decide

theorem test_charging_temperatures :
    let at_ := fun (p : Probe) => quiet.putZone 0 { ZoneRecord.initial with air := p }
    let fault := at_ ⟨.fault, 3, 0, [], some 50, none⟩
    let coldFault := at_ ⟨.fault, 3, 0, [], some (-300), none⟩
    (accrualTemp fault 0, substitutionFlag fault 0) = (50, true) ∧ accrualTemp coldFault 0 = -150 ∧
    (accrualTemp quiet 0, substitutionFlag quiet 0) = (-150, true) ∧
    (accrualTemp (airAt (-300) ⟨.quiet, 0⟩ quiet) 0, substitutionFlag (airAt (-300) ⟨.quiet, 0⟩ quiet) 0) = (-300, false) ∧
    substitute (airAt (-300) ⟨.quiet, 0⟩ quiet) 0 = -150 ∧ unresolvedTemp quiet = -150 ∧
    unresolvedTemp (quiet.setProfile { dockProfile with zones := Bank.fill { defaultZone with kind := .unused } }) = 500 ∧
    contribution (doorIn .breach none) (.trailer 0) (.bulk 0) 0 = (-150, true) ∧
    contribution (airAt (-300) ⟨.quiet, 0⟩ quiet) (.bulk 0) (.bulk 0) 0 = (-300, false) ∧
    contribution (spare .unused quiet) (.bulk 0) (.bulk 7) 7 = (-150, true) := by decide

theorem test_period_expiry :
    let s := airAt 34 ⟨.quiet, 0⟩ (with1 (pallet 5 (.at (.bulk 0))) quiet)
    Settled s ∧ (s.pallets.map Pallet.tag).Nodup ∧ s.exposure.period = some 10 ∧
    (after .accrualPeriodExpiry s).pallets.map Pallet.account = [136] ∧
    (after .accrualPeriodExpiry (after (.palletCharge 5) s)).pallets.map Pallet.account = [136] ∧
    (after (.palletCharge 5) (after (.palletCharge 5) s)).pallets.map Pallet.account = [136] := by
  unfold Settled; decide

theorem test_period_expiry_raises :
    let s := airAt 34 ⟨.quiet, 0⟩ (quiet.setPallets
      [{ pallet 5 (.at (.bulk 0)) with account := 5990 }, { pallet 6 (.at (.bulk 0)) with dwell := 1791 }])
    Settled s ∧ keys (after .accrualPeriodExpiry s) = [(.palletOver, .tag 5), (.dwellExceeded, .tag 6)] := by
  unfold Settled; decide

/-! ## Doors -/

theorem test_report_docks_and_seals :
    doorState (takeReport 0 (shut 399) (doorIn .vacant none)) 0 = .docked ∧
    doorState (takeReport 0 (shut 400) (doorIn .vacant none)) 0 = .sealing ∧
    doorState (takeReport 0 (shut 400) (doorIn .lost none)) 0 = .sealing ∧
    doorState (takeReport 0 (shut 400) (doorIn .docked inbound)) 0 = .sealing ∧
    doorState (takeReport 0 (shut 399) (doorIn .sealing inbound)) 0 = .docked ∧
    doorState (takeReport 0 { shut 400 with restraint := false } (doorIn .sealed inbound)) 0 = .docked ∧
    takeReport 0 (shut 400) (doorIn .disabled none) = doorIn .disabled none := by decide

/-- R112, R100, R94: a report takes its own door alone out of the queue, lets the open timer run on, and leaves what no rule names. -/
theorem test_report_leaves_the_rest :
    let queued := (doorIn .sealed inbound).putWait 0 [1, 0, 2]
    let long := (openDoor inbound).modDoor 0 fun r =>
      { r with openTimer := ⟨true, 9⟩, openLong := true, breachCause := some .seal, lossOrigin := some .docked }
    let y := (takeReport 0 (shut 400) long).doors.get 0
    let z := (takeReport 0 ⟨true, false, .moving, 400⟩ long).doors.get 0
    (takeReport 0 (shut 400) queued).waits.get 0 = [1, 0, 2] ∧
    (takeReport 0 { shut 400 with restraint := false } queued).waits.get 0 = [1, 2] ∧
    (takeReport 0 ⟨false, false, .closed, 0⟩ queued).waits.get 0 = [1, 2] ∧
    (y.openTimer, y.openLong, y.breachCause, y.lossOrigin) = (⟨true, 9⟩, true, some .seal, some .docked) ∧
    (z.openTimer, z.openLong, z.breachCause, z.openingSeen) = (⟨false, 9⟩, false, some .restraint, false) := by decide

/-- Each entry to DOCKED takes its stamp anew (R87); a door that stays DOCKED keeps it. -/
theorem test_each_docking_takes_its_stamp :
    let at_ := fun (st : DoorState) => (doorIn st inbound).modDoor 0 fun r => { r with dockedAt := some 7, sealedAt := some 8 }
    let stamp := fun (r : Report) (st : DoorState) => ((takeReport 0 r (at_ st)).doors.get 0).dockedAt
    stamp (shut 399) .sealing = some 1000 ∧ stamp { shut 400 with restraint := false } .sealed = some 1000 ∧
    stamp { shut 400 with restraint := false } .closing = some 1000 ∧ stamp (shut 400) .breach = some 1000 ∧
    stamp (shut 400) .lost = some 1000 ∧ stamp (shut 399) .docked = some 7 ∧ stamp (shut 400) .sealed = some 7 ∧
    stamp (shut 400) .closing = some 7 ∧ ((takeReport 0 (shut 400) (at_ .closing)).doors.get 0).sealedAt = some 1000 ∧
    ((takeReport 0 (shut 399) (at_ .sealing)).doors.get 0).sealedAt = some 8 := by decide

theorem test_no_trailer_left_after_a_release :
    let gone : Report := ⟨false, false, .closed, 0⟩
    let lost := fun (o : Option DoorState) (a : Option Assignment) =>
      keys (takeReport 0 gone ((doorIn .lost a).modDoor 0 fun r => { r with lossOrigin := o }))
    keys (takeReport 0 gone (doorIn .released inbound)) = [] ∧ lost (some .vacant) inbound = [] ∧ lost (some .released) inbound = [] ∧
    lost none none = [] ∧ lost none inbound = [(.trailerLeft, .door 0)] ∧ lost (some .docked) none = [(.trailerLeft, .door 0)] := by
  decide

theorem test_report_of_an_open_leaf :
    let ajar : Report := ⟨true, true, .moving, 400⟩
    doorState (takeReport 0 ajar (openDoor inbound)) 0 = .opened ∧
    doorState (takeReport 0 (shut 400) (openDoor inbound)) 0 = .opened ∧
    doorState (takeReport 0 (shut 400) (takeReport 0 ajar (openDoor inbound))) 0 = .sealed ∧
    doorState (takeReport 0 (shut 400) (doorIn .closing inbound)) 0 = .sealed ∧
    doorState (takeReport 0 { ajar with restraint := false } (openDoor inbound)) 0 = .breach ∧
    doorState (takeReport 0 (shut 400) (doorIn .breach inbound)) 0 = .docked ∧
    ((takeReport 0 ajar (doorIn .sealed inbound)).doors.get 0).forced = true ∧
    ((takeReport 0 (shut 349) (openDoor inbound)).doors.get 0).lossTimer = ⟨true, 0⟩ ∧
    ((takeReport 0 (shut 350) (openDoor inbound)).doors.get 0).lossTimer = ⟨false, 0⟩ := by decide

theorem test_report_of_a_trailer_gone :
    let gone : Report := ⟨false, false, .closed, 0⟩
    let s := with1 (pallet 5 (.at (.trailer 0))) (doorIn .sealed inbound)
    doorState (takeReport 0 gone s) 0 = .vacant ∧ (takeReport 0 gone s).pallets.map Pallet.location = [.unresolved] ∧
    (takeReport 0 gone s).alarms.entries.map AlarmEntry.key = [(.trailerLeft, .door 0)] ∧
    doorState (takeReport 0 gone (doorIn .released none)) 0 = .vacant := by decide

theorem test_report_ends_what_it_ends :
    let gone : Report := ⟨false, false, .closed, 0⟩
    let aboardLost := with1 (pallet 5 (.at (.trailer 0))) ((doorIn .lost inbound).modDoor 0 fun r => { r with lossOrigin := some .sealed })
    let long := raise .doorOpenLong (.door 0) ((openDoor inbound).modDoor 0 fun r => { r with openLong := true, openTimer := ⟨true, 9⟩ })
    let ready := fun (s : State) => (s.port .door).pending &&& NoticeKind.releaseReady.bit == NoticeKind.releaseReady.bit
    doorState (takeReport 0 gone aboardLost) 0 = .vacant ∧ (takeReport 0 gone aboardLost).pallets.map Pallet.location = [.unresolved] ∧
    keys (takeReport 0 gone aboardLost) = [(.trailerLeft, .door 0)] ∧
    (takeReport 0 gone long).alarms.entries.map AlarmEntry.state = [.clearedUnacked, .clearedUnacked] ∧
    (takeReport 0 gone (raise .doorBreach (.door 0) (doorIn .breach inbound))).alarms.entries.map AlarmEntry.state =
      [.clearedUnacked, .clearedUnacked] ∧
    ready (takeReport 0 (shut 400) (doorIn .closing inbound)) = true ∧
    ready (takeReport 0 (shut 400) (with1 (pallet 5 (.at (.trailer 0))) (doorIn .closing inbound))) = false := by decide

theorem test_door_timers :
    doorState (after (.sealDelayExpiry 0) ((doorIn .sealing none).modDoor 0 fun r => { r with sealTimer := ⟨true, 1⟩ })) 0 = .sealed ∧
    doorState (after (.lossDelayExpiry 0) ((doorIn .sealed none).modDoor 0 fun r => { r with lossTimer := ⟨true, 1⟩ })) 0 = .docked ∧
    ((after (.lossDelayExpiry 0) ((doorIn .sealed none).modDoor 0 fun r => { r with lossTimer := ⟨true, 1⟩ })).doors.get 0).dockedAt =
      some 1000 ∧
    doorState (after (.lossDelayExpiry 0) ((openDoor none).modDoor 0 fun r => { r with lossTimer := ⟨true, 1⟩ })) 0 = .breach ∧
    ((after (.openLongExpiry 0) ((openDoor none).modDoor 0 fun r => { r with openTimer := ⟨true, 1⟩ })).doors.get 0).openTimer =
      ⟨true, 1800⟩ := by decide

theorem test_assign :
    answered .door (after (.trailerAssign .door 1 0 1) (doorIn .docked none)) = some (0x30, .param) ∧
    answered .door (after (.trailerAssign .door 1 9 1) (openDoor none)) = some (0x30, .state) ∧
    answered .door (after (.trailerAssign .door 1 9 1) (with1 (pallet 5 (.at (.trailer 0))) (doorIn .sealed none))) =
      some (0x30, .pending) ∧
    ((after (.trailerAssign .door 1 9 2) (doorIn .docked none)).doors.get 0).assignment = some ⟨9, .outbound⟩ := by decide

theorem test_release :
    answered .door (after (.trailerRelease .door 1) (doorIn .docked none)) = some (0x33, .state) ∧
    answered .door (after (.trailerRelease .door 1) (with1 (pallet 5 (.at (.trailer 0))) (doorIn .sealed none))) =
      some (0x33, .pending) ∧
    doorState (after (.trailerRelease .door 1) (doorIn .sealed none)) 0 = .released := by decide

def unitHolds : State := (doorIn .sealed inbound).modUnit 0 fun u => { u with state := .drip }

theorem test_door_open :
    Settled (doorIn .sealed inbound) ∧ allowsOpen (doorIn .sealed inbound) 0 = true ∧ Settled unitHolds ∧ allowsOpen unitHolds 0 = false ∧
    doorState (after (.doorOpen .door 1) (doorIn .sealed inbound)) 0 = .opened ∧
    answered .door (after (.doorOpen .door 1) unitHolds) = some (0x31, .queued) ∧
    answered .door (after (.doorOpen .door 1) (sent .door (after (.doorOpen .door 1) unitHolds))) = some (0x31, .duplicate) ∧
    answered .door (after (.doorOpen .door 1) (doorIn .sealed none)) = some (0x31, .state) := by
  unfold Settled; decide

theorem test_limit_in_force :
    let limit := fun (most : Nat) (c : ConditionState) =>
      limitInForce ((airAt 0 ⟨c, 0⟩ quiet).setProfile { dockProfile with zones := Bank.fill { defaultZone with maxOpen := most } }) 0
    [0, 1, 2, 3, 5, 12].map (fun n => limit n .active) = [0, 1, 1, 1, 2, 6] ∧
    [0, 1, 12].map (fun n => limit n .pending) = [0, 1, 12] := by decide

theorem test_what_holds_opens :
    let holds := fun (st : UnitState) (urgent : Bool) => !allowsOpen (quiet.modUnit 0 fun u => { u with state := st, urgent := urgent }) 0
    [UnitState.idle, .requested, .pumpdown, .heat, .drip, .recover].map (fun st => holds st false) =
      [false, false, true, true, true, false] ∧ holds .requested true = true ∧
    openCount (doorIn .closing none) 0 = 1 ∧ openCount (doorIn .breach none) 0 = 0 ∧
    forcedCount (quiet.modDoor 0 fun r => { r with forced := true }) 0 = 1 := by decide

theorem test_door_close :
    doorState (after (.doorClose .door 1) (openDoor inbound)) 0 = .closing ∧
    (after (.doorClose .door 1) (sent .door (after (.doorOpen .door 1) unitHolds))).waits.get 0 = [] ∧
    answered .door (after (.doorClose .door 1) (doorIn .sealed inbound)) = some (0x32, .state) := by decide

/-! ## The door loop -/

def polling : State := loopAt okStation .polling .idle (doorIn .docked none)

set_option maxRecDepth 8000 in
theorem test_loop_poll :
    (after .loopPollSend polling).loop.window = .poll 0 ∧
    (after .loopPollSend polling).loop.sent = [[1, 0x80, crc8 [1, 0x80]]] ∧
    (after .loopPollSend quiet).loop.window = .idle := by decide

def windowed (misses : Nat) : State := loopAt ⟨.ok, misses, false, false⟩ .polling (.poll 0) (doorIn .docked none)

set_option maxRecDepth 8000 in
theorem test_poll_reply :
    judgeReply 0 (reply (shut 400) false) = .good (shut 400) false ∧ judgeReply 0 (reply (shut 400) true) = .good (shut 400) true ∧
    judgeReply 0 none = .silence ∧ judgeReply 0 (some []) = .notGood ∧
    doorState (after (.pollReplyWindowClose (reply (shut 400) false)) (windowed 2)) 0 = .sealing ∧
    (stationOf (after (.pollReplyWindowClose none) (windowed 1)) 0).misses = 2 ∧
    doorState (after (.pollReplyWindowClose none) (windowed 2)) 0 = .lost ∧
    (stationOf (after (.pollReplyWindowClose (reply (shut 400) true)) (windowed 0)) 0).state = .lost := by decide

set_option maxRecDepth 8000 in
theorem test_station_lost_leaves_the_round :
    let s := ((windowed 2).modDoor 0 fun r => { r with state := .sealed }).modUnit 0 fun u => { u with state := .heat }
    let t := after (.pollReplyWindowClose none) ((s.putWait 0 [1, 0]).setLoop { s.loop with
      lastPolled := some 0, readdressing := true, attemptTimer := 1, breakIndex := some 4 })
    t.waits.get 0 = [1] ∧ t.loop.lastPolled = some 0 ∧ t.loop.attemptTimer = 1 ∧ t.loop.breakIndex = some 4 ∧ t.loop.sent = [] := by
  decide

def addressing (w : LoopWindow) : State := loopAt ⟨.notFound, 0, false, false⟩ .addressing w (doorIn .lost none)

set_option maxRecDepth 8000 in
theorem test_addressing_goes_on :
    (after (.addressingReplyWindow (reply (shut 400) true)) (addressing (.assign 0))).loop.window = .assign 1 ∧
    (after (.addressingReplyWindow (reply (shut 400) false)) (addressing (.fallback 0))).loop.window = .assign 1 ∧
    (after (.addressingReplyWindow (some [])) (addressing (.assign 0))).loop.window = .fallback 0 := by decide

set_option maxRecDepth 8000 in
theorem test_addressing_ends :
    (after (.addressingReplyWindow none) (addressing (.assign 0))).loop.mode = .polling ∧
    (after (.addressingReplyWindow none) (addressing (.assign 0))).loop.breakIndex = some 0 ∧
    (after (.addressingReplyWindow (some [])) (addressing (.fallback 0))).loop.readdressing = true ∧
    (after (.addressingReplyWindow (some (replyBytes 24 (shut 400) false))) (addressing (.assign 23))).loop.mode = .polling := by decide

set_option maxRecDepth 8000 in
theorem test_run_end_marks_the_unfound :
    let t := after (.addressingReplyWindow none) (addressing (.assign 0))
    let u := after (.addressingReplyWindow none) (loopAt ⟨.notFound, 0, false, false⟩ .addressing (.assign 0) (doorIn .docked inbound))
    (t.doors.get 0).view.stale = true ∧ doorState t 0 = .lost ∧ t.alarms.find .stationLost (.door 0) ≠ none ∧
    u.doors.get 0 = lostRecord { quiet.doors.get 0 with state := .docked, assignment := inbound } := by decide

def repairing (w : LoopWindow) : State :=
  let s := loopAt ⟨.lost, 3, false, true⟩ .polling w (doorIn .lost none)
  s.setLoop { s.loop with readdressing := true }

set_option maxRecDepth 8000 in
theorem test_readdressing :
    (after .readdressAttempt (repairing .idle)).loop.window = .rePoll 0 ∧
    (after (.readdressReplyWindow (reply (shut 400) false)) (repairing (.rePoll 0))).loop.window = .rePoll 1 ∧
    (after (.readdressReplyWindow (reply (shut 400) false)) (repairing (.rePoll 0))).loop.sent = [[2, 0x80, crc8 [2, 0x80]]] ∧
    (after (.readdressReplyWindow none) (repairing (.rePoll 0))).loop.window = .reAssign 0 ∧
    (after (.readdressReplyWindow (reply (shut 400) true)) (repairing (.rePoll 0))).loop.window = .reAssign 0 ∧
    (after (.readdressReplyWindow (some [])) (repairing (.rePoll 0))).loop.breakIndex = some 0 ∧
    (stationOf (after (.readdressReplyWindow (reply (shut 400) true)) (repairing (.reAssign 0))) 0).state = .ok ∧
    (after (.readdressReplyWindow none) (repairing (.reAssign 0))).loop.window = .idle := by decide

set_option maxRecDepth 8000 in
theorem test_loop_restart :
    answered .door (after (.loopRestart .door) (loopAt okStation .polling .idle (openDoor none))) = some (0x34, .state) ∧
    answered .door (after (.loopRestart .door) (addressing .idle)) = some (0x34, .state) ∧
    (after (.loopRestart .door) polling).loop.window = .assign 0 ∧ (after (.loopRestart .door) (windowed 0)).loop.window = .poll 0 ∧
    doorState (after (.loopRestart .door) polling) 0 = .lost := by decide

set_option maxRecDepth 8000 in
theorem test_station_reply_reads_back :
    goodReply 23 (replyBytes 24 (shut 4001) true) = some (shut 4000, true) ∧ goodReply 22 (replyBytes 24 (shut 0) true) = none := by decide

/-! ## Defrosts -/

/-- Z1's doors hold a forced leaf, so its defrost waits. -/
def forced (s : State) : State := s.modDoor 0 fun r => { r with forced := true }
def urgentProfile : Profile := { dockProfile with zones := Bank.fill { defaultZone with kind := .dock, maxOpen := 2, maxDeferral := 0 } }

theorem test_defrost_request_granted :
    Settled quiet ∧ DefrostInv quiet ∧ unitState (after (.defrostRequest .plant 1) quiet) 0 = .pumpdown ∧
    answered .plant (after (.defrostRequest .plant 1) quiet) = some (0x20, .ok) := by
  unfold Settled DefrostInv; decide

theorem test_defrost_request_queued :
    Settled (forced quiet) ∧ DefrostInv (forced quiet) ∧
    answered .plant (after (.defrostRequest .plant 1) (forced quiet)) = some (0x20, .queued) ∧
    (after (.defrostRequest .plant 1) ((forced quiet).setProfile urgentProfile)).defrostQueue = [0] ∧
    isUrgent (after (.defrostRequest .plant 1) ((forced quiet).setProfile urgentProfile)) 0 = true := by
  unfold Settled DefrostInv; decide

theorem test_defrost_request_refused :
    let unused := quiet.setProfile { dockProfile with zones := Bank.fill { defaultZone with kind := .unused } }
    Settled unused ∧ DefrostInv (unitIn .drip) ∧ Settled (unitIn .drip) ∧
    answered .plant (after (.defrostRequest .plant 1) unused) = some (0x20, .param) ∧
    answered .plant (after (.defrostRequest .plant 9) quiet) = some (0x20, .param) ∧
    answered .plant (after (.defrostRequest .plant 1) (unitIn .drip)) = some (0x20, .state) := by
  unfold Settled DefrostInv; decide

def risky : State := with1 { pallet 5 (.at (.bulk 0)) with account := 5999 } (unitIn .requested)

theorem test_deferral_expiry :
    Settled (forced (unitIn .requested)) ∧ DefrostInv (forced (unitIn .requested)) ∧ Settled risky ∧ DefrostInv risky ∧
    ((after (.deferralExpiry 0) (forced (unitIn .requested))).units.get 0).deferral = ⟨true, 3600⟩ ∧
    isUrgent (after (.deferralExpiry 0) (forced (unitIn .requested))) 0 = true ∧
    unitState (after (.deferralExpiry 0) risky) 0 = .pumpdown ∧ unitState (after (.deferralExpiry 0) quiet) 0 = .idle := by
  unfold Settled DefrostInv; decide

theorem test_reserve_risk :
    let risk := fun (p : Pallet) => reserveRiskCount (with1 p quiet) 0
    risk { pallet 5 (.at (.bulk 0)) with account := 4501 } = 1 ∧ risk { pallet 5 (.at (.bulk 0)) with account := 4500 } = 0 ∧
    risk { pallet 5 (.at (.lane 0)) with account := 5000, status := .warning } = 1 ∧
    risk { pallet 5 (.at (.bulk 0)) with account := 6000, status := .over } = 0 ∧
    risk { pallet 5 (.at (.bulk 1)) with account := 5000 } = 0 ∧ risk { pallet 5 (.at (.trailer 0)) with account := 5000 } = 0 ∧
    risk { pallet 5 .unresolved with account := 5000 } = 0 := by decide

def coilAt (t : Int) (s : State) : State :=
  s.putZone 0 { ZoneRecord.initial with coil := ⟨.ok, 0, 0, [t], some t, none⟩ }

theorem test_pumpdown_ends :
    unitState (after (.pumpdownDone .plant 1) (unitIn .pumpdown)) 0 = .heat ∧
    unitState (after (.pumpdownDone .plant 1) (coilAt 99 (unitIn .pumpdown))) 0 = .heat ∧
    unitState (after (.pumpdownDone .plant 1) (coilAt 100 (unitIn .pumpdown))) 0 = .drip ∧
    answered .plant (after (.pumpdownDone .plant 1) quiet) = some (0x21, .state) ∧
    ((after (.pumpdownTimeout 0) (unitIn .pumpdown)).units.get 0).phase = ⟨false, 180⟩ ∧
    unitState (after (.pumpdownTimeout 0) (unitIn .heat)) 0 = .heat := by decide

theorem test_heat_ends :
    Settled (unitIn .heat) ∧ unitState (after (.heatEnd .plant 1) (unitIn .heat)) 0 = .drip ∧
    answered .plant (after (.heatEnd .plant 1) quiet) = some (0x22, .state) ∧
    (after (.heatTimeExpiry 0) (unitIn .heat)).alarms.entries = [] ∧
    (after (.heatTimeExpiry 0) (coilAt 99 (unitIn .heat))).alarms.entries.map AlarmEntry.key = [(.heatOverrun, .zone 0)] ∧
    unitState (after (.conversionComplete 1 9012) (unitIn .heat)) 0 = .drip ∧
    unitState (after (.conversionComplete 1 9000) (unitIn .heat)) 0 = .heat := by
  unfold Settled; decide

theorem test_drip_and_recovery :
    Settled (unitIn .drip) ∧ unitState (after (.dripExpiry 0) (unitIn .drip)) 0 = .recover ∧
    unitState (after (.dripExpiry 0) (airAt (-200) ⟨.quiet, 0⟩ (unitIn .drip))) 0 = .idle ∧
    unitState (after (.dripExpiry 0) (airAt (-199) ⟨.quiet, 0⟩ (unitIn .drip))) 0 = .recover ∧
    (after (.recoveryTimeExpiry 0) (unitIn .recover)).alarms.entries = [] ∧
    (after (.recoveryTimeExpiry 0) (airAt (-199) ⟨.quiet, 0⟩ (unitIn .recover))).alarms.entries.map AlarmEntry.key =
      [(.recoveryFail, .zone 0)] ∧
    unitState (after (.dripExpiry 0) quiet) 0 = .idle := by
  unfold Settled; decide

theorem test_bypass_holds_and_ends :
    let warm := fun (st : UnitState) => airAt 0 ⟨.pending, 9⟩ (phaseAt 9 st)
    ((after (.pumpdownDone .plant 1) (warm .pumpdown)).zones.get 0).high = ⟨.pending, 0⟩ ∧
    ((after (.recoveryTimeExpiry 0) (warm .recover)).zones.get 0).high = ⟨.pending, 9⟩ ∧
    ((after (.recoveryTimeExpiry 0) (airAt (-200) ⟨.pending, 0⟩ (phaseAt 9 .recover))).zones.get 0).high = ⟨.quiet, 0⟩ := by decide

theorem test_abort_meets_its_invariant :
    DefrostInv (unitIn .requested) ∧ DefrostInv (unitIn .pumpdown) :=
  ⟨by unfold DefrostInv; decide, by unfold DefrostInv; decide⟩

theorem test_abort_meets_its_invariant_later :
    DefrostInv (unitIn .heat) ∧ DefrostInv (unitIn .recover) :=
  ⟨by unfold DefrostInv; decide, by unfold DefrostInv; decide⟩

theorem test_abort :
    (after (.defrostAbort .plant 1) (unitIn .requested)).defrostQueue = [] ∧
    unitState (after (.defrostAbort .plant 1) (unitIn .pumpdown)) 0 = .idle ∧
    unitState (after (.defrostAbort .plant 1) (unitIn .heat)) 0 = .drip ∧
    unitState (after (.defrostAbort .plant 1) (unitIn .recover)) 0 = .idle ∧
    ((after (.defrostAbort .plant 1) (airAt (-200) ⟨.active, 30⟩ (unitIn .recover))).zones.get 0).high = ⟨.quiet, 0⟩ ∧
    answered .plant (after (.defrostAbort .plant 1) (unitIn .drip)) = some (0x23, .state) := by decide

/-! ## Pallets, moves and manifests -/

theorem test_arrive :
    findPallet quiet 5 = none ∧
    answered .warehouse (after (.arrive .warehouse 5 0 1 100) (doorIn .docked inbound)) = some (0x40, .ok) ∧
    answered .warehouse (after (.arrive .warehouse 5 0 1 65536) (doorIn .docked inbound)) = some (0x40, .clamped) ∧
    (after (.arrive .warehouse 5 0 1 6000) (doorIn .docked inbound)).pallets.map Pallet.status = [.over] ∧
    (after (.arrive .warehouse 5 0 1 4500) (doorIn .docked inbound)).pallets.map Pallet.status = [.warning] ∧
    answered .warehouse (after (.arrive .warehouse 5 0 1 0) (doorIn .docked outbound)) = some (0x40, .state) ∧
    answered .warehouse (after (.arrive .warehouse 5 0 1 0) (with1 (pallet 5 .unresolved) quiet)) = some (0x40, .duplicate) ∧
    answered .warehouse (after (.arrive .warehouse 5 16 1 0) quiet) = some (0x40, .param) := by decide

set_option maxRecDepth 40000 in
theorem test_arrive_at_a_full_table :
    let s := (doorIn .docked inbound).setPallets (List.replicate 512 (pallet 10 .unresolved))
    s.pallets.length = 512 ∧ (arriveBody 5 0 1 0 s).2.result = .full := by decide

theorem test_resolve :
    let s := with1 (pallet 5 .unresolved) (doorIn .docked inbound)
    place? 2 32 = some (.lane 31) ∧ place? 1 24 = some (.trailer 23) ∧ place? 3 8 = some (.bulk 7) ∧
    (after (.resolve .warehouse 5 2 1) s).lanes.get 0 = [5] ∧
    (after (.resolve .warehouse 5 1 1) s).pallets.map Pallet.location = [.at (.trailer 0)] ∧
    answered .warehouse (after (.resolve .warehouse 5 1 2) s) = some (0x44, .state) ∧
    answered .warehouse (after (.resolve .warehouse 5 2 1) (s.putLane 0 [1, 2, 3, 4])) = some (0x44, .full) ∧
    answered .warehouse (after (.resolve .warehouse 6 3 1) s) = some (0x44, .notFound) ∧
    answered .warehouse (after (.resolve .warehouse 5 4 1) s) = some (0x44, .param) := by decide

theorem test_dispose :
    let spoiled := with1 { pallet 5 (.at (.lane 0)) with status := .over, dwell := 1801 } (quiet.putLane 0 [4, 5, 6])
    ((after (.disposeOverride .warehouse 5) spoiled).pallets.map Pallet.overridden = [true]) ∧
    answered .warehouse (after (.disposeOverride .warehouse 5) (with1 (pallet 5 .unresolved) quiet)) = some (0x45, .state) ∧
    (after (.disposeRemove .warehouse 5) spoiled).lanes.get 0 = [4, 6] ∧ (after (.disposeRemove .warehouse 5) spoiled).pallets = [] ∧
    answered .warehouse (after (.disposeRemove .warehouse 6) spoiled) = some (0x45, .notFound) := by decide

theorem test_remove_makes_a_door_ready :
    ((after (.disposeRemove .warehouse 5) (with1 (pallet 5 (.at (.trailer 0))) (doorIn .sealed inbound))).port .door).pending &&&
      NoticeKind.releaseReady.bit = NoticeKind.releaseReady.bit := by decide

def inLane : State := with1 (pallet 5 (.at (.lane 0))) (quiet.putLane 0 [5])

theorem test_purge :
    TableInv inLane ∧ (∀ l : LaneId, (inLane.lanes.get l) = if l = 0 then [5] else []) ∧
    (after (.purge .warehouse [(5, 5)]) inLane).pallets = [] ∧ (after (.purge .warehouse [(5, 5)]) inLane).lanes.get 0 = [] ∧
    (after (.purge .warehouse [(6, 9)]) inLane).pallets = inLane.pallets ∧
    answered .warehouse (after (.purge .warehouse [(2, 1)]) inLane) = some (0x46, .param) ∧
    answered .warehouse (after (.purge .warehouse []) inLane) = some (0x46, .param) := by
  unfold TableInv; decide

/-- Two pallets leave at one PURGE: the alarms of the spoiled one end, and D01, emptied, is ready. -/
theorem test_purge_ends_alarms_and_readies_a_door :
    let spoiled := { pallet 5 (.at (.trailer 0)) with status := .over, dwell := 1801 }
    let s := raise .dwellExceeded (.tag 5) (raise .palletOver (.tag 5)
      ((doorIn .sealed inbound).setPallets [spoiled, pallet 6 (.at (.trailer 0))]))
    let t := after (.purge .warehouse [(5, 6)]) s
    t.alarms.entries.map AlarmEntry.state = [.clearedUnacked, .clearedUnacked] ∧ aboard t 0 = 0 ∧
    (t.port .door).pending &&& NoticeKind.releaseReady.bit = NoticeKind.releaseReady.bit ∧
    ((after (.purge .warehouse [(5, 5)]) s).port .door).pending &&& NoticeKind.releaseReady.bit = 0 := by decide

/-- Z1's air stands at -300, below every class threshold. -/
def cold (s : State) : State := airAt (-300) ⟨.quiet, 0⟩ s

theorem test_move_granted :
    let s := cold inLane
    dest? 3 1 = some (.bulk 0) ∧ route? [1] = some [0] ∧ (contribution s (.lane 0) (.bulk 0) 0).1 = -300 ∧
    answered .warehouse (after (.move .warehouse 5 3 1 [1] 1800) s) = some (0x41, .ok) ∧
    answered .warehouse (after (.move .warehouse 5 3 1 [1] 1801) s) = some (0x41, .clamped) ∧
    answered .warehouse (after (.move .warehouse 5 3 1 [1] 0) s) = some (0x41, .clamped) ∧
    (after (.move .warehouse 5 3 1 [1] 60) s).lanes.get 0 = [] ∧ placesInUse (after (.move .warehouse 5 3 1 [1] 60) s) 0 = 1 := by decide

theorem test_move_refused :
    let no := fun (c : Instr) (s : State) => ((after c s).port .warehouse).response.map Response.result
    no (.move .warehouse 5 1 1 [1] 60) inLane = some .param ∧ no (.move .warehouse 6 3 1 [1] 60) inLane = some .notFound ∧
    no (.move .warehouse 5 3 1 [1] 60) (with1 (pallet 5 .unresolved) quiet) = some .state ∧
    no (.move .warehouse 5 3 1 [2] 60) inLane = some .param ∧
    no (.move .warehouse 5 3 1 [1] 60) (inLane.putLane 0 [4, 5]) = some .head ∧
    no (.move .warehouse 5 3 1 [1] 60) (with1 (pallet 5 (.at (.trailer 0))) (doorIn .sealed inbound)) = some .state ∧
    no (.move .warehouse 5 2 2 [1] 60) (inLane.putLane 1 [1, 2, 3, 4]) = some .full ∧
    no (.move .warehouse 5 6 1 [1] 60) inLane = some .state := by decide

theorem test_move_refused_at_a_door :
    let at_ := fun (p : Pallet) => (with1 p (openDoor outbound)).putLane 0 [5]
    let no := fun (s : State) => ((after (.move .warehouse 5 6 1 [1] 60) s).port .warehouse).response.map Response.result
    no (at_ { pallet 5 (.at (.lane 0)) with status := .over }) = some .held ∧
    no (at_ { pallet 5 (.at (.lane 0)) with account := 5980 }) = some .budget ∧
    no (at_ { pallet 5 (.at (.lane 0)) with account := 5970 }) = some .ok ∧
    no (at_ { pallet 5 (.at (.lane 0)) with account := 5980, overridden := true }) = some .ok := by decide

theorem test_move_refused_at_the_bounds :
    let away := fun (i : Nat) => pallet (i + 10) (.transit ⟨.bulk 0, .bulk 0, [0], 9, 0, false⟩)
    let busy := inLane.setPallets (pallet 5 (.at (.lane 0)) :: (List.range 32).map away)
    transitCount busy = 32 ∧
    ((after (.move .warehouse 5 3 1 [1] 60) busy).port .warehouse).response.map Response.result = some .full := by decide

def moving (origin : Place) (dest : Dest) (overdue : Bool) : Pallet := pallet 5 (.transit ⟨origin, dest, [0], 95, 0, overdue⟩)

theorem test_move_done :
    (after (.moveDone .warehouse 5) (with1 (moving (.bulk 0) (.lane 0) true) (quiet.putLane 0 [4]))).lanes.get 0 = [4, 5] ∧
    (after (.moveDone .warehouse 5) (with1 (moving (.bulk 0) (.bulk 1) false) quiet)).pallets.map Pallet.location = [.at (.bulk 1)] ∧
    (after (.moveDone .warehouse 5) (with1 (moving (.bulk 0) (.door 0) false) (openDoor inbound))).pallets.map Pallet.location =
      [.unresolved] ∧
    answered .warehouse (after (.moveDone .warehouse 5) inLane) = some (0x42, .state) ∧
    answered .warehouse (after (.moveDone .warehouse 6) inLane) = some (0x42, .notFound) := by decide

theorem test_move_done_closes_into_the_manifest :
    let s := after (.moveDone .warehouse 5) (with1 { moving (.bulk 0) (.door 0) false with overridden := true } (openDoor outbound))
    s.pallets = [] ∧ (s.manifests.get 0).map Departure.verdict = [.overridden] ∧ (s.manifests.get 0).map Departure.trailer = [7] ∧
    (s.manifests.get 0).map Departure.history = [[(.at (.trailer 0), 1000)]] := by decide

theorem test_move_done_at_an_unused_store :
    let s := (with1 (moving (.bulk 0) (.bulk 1) false) quiet).setProfile
      { dockProfile with zones := dockProfile.zones.put 1 { defaultZone with kind := .unused } }
    (after (.moveDone .warehouse 5) s).pallets.map Pallet.location = [.unresolved] := by decide

theorem test_move_cancel :
    (after (.moveCancel .warehouse 5) (with1 (moving (.lane 0) (.bulk 1) true) (quiet.putLane 0 [4]))).lanes.get 0 = [5, 4] ∧
    (after (.moveCancel .warehouse 5) (with1 (moving (.bulk 1) (.bulk 0) false) quiet)).pallets.map Pallet.location = [.at (.bulk 1)] ∧
    (after (.moveCancel .warehouse 5) (with1 (moving (.trailer 0) (.bulk 0) false) (doorIn .docked inbound))).pallets.map
      Pallet.location = [.at (.trailer 0)] ∧
    (after (.moveCancel .warehouse 5) (with1 (moving (.trailer 0) (.bulk 0) false) (doorIn .vacant none))).pallets.map
      Pallet.location = [.unresolved] ∧
    answered .warehouse (after (.moveCancel .warehouse 5) inLane) = some (0x43, .state) := by decide

theorem test_move_overdue :
    ((after (.moveOverdueExpiry 5) (with1 (moving (.bulk 0) (.bulk 1) false) quiet)).pallets.map fun p => p.transit?.map Transit.timer) =
      [some 250] ∧
    after (.moveOverdueExpiry 5) (with1 (moving (.bulk 0) (.bulk 1) true) quiet) = with1 (moving (.bulk 0) (.bulk 1) true) quiet ∧
    after (.moveOverdueExpiry 5) inLane = inLane ∧ after (.moveOverdueExpiry 6) inLane = inLane := by decide

def departure (tag : Nat) (v : Verdict) : Departure := ⟨tag, 0, 100, none, v, false, 500, 900, 7, 1, []⟩
def loaded (m : List Departure) : State := (doorIn .sealed outbound).putManifest 0 m

theorem test_manifest_take :
    answered .warehouse (after (.manifestTake .warehouse 1) (loaded [departure 1 .normal, departure 2 .over])) = some (0x47, .stopped) ∧
    answered .warehouse (after (.manifestTake .warehouse 1) (loaded [])) = some (0x47, .ok) ∧
    takeWalk 3 [departure 1 .over, departure 2 .normal] = [departure 1 .over] ∧
    answered .warehouse (after (.manifestTake .warehouse 25) quiet) = some (0x47, .param) := by decide

theorem test_manifest_accept :
    (after (.manifestAccept .warehouse 1 1 0) (loaded [departure 1 .normal, departure 2 .over])).manifests.get 0 = [departure 2 .over] ∧
    answered .warehouse (after (.manifestAccept .warehouse 1 2 0) (loaded [departure 1 .normal, departure 2 .over])) =
      some (0x48, .pending) ∧
    (after (.manifestAccept .warehouse 1 2 1) (loaded [departure 1 .normal, departure 2 .over])).manifests.get 0 = [] ∧
    answered .warehouse (after (.manifestAccept .warehouse 1 1 0) (loaded [])) = some (0x48, .param) ∧
    answered .warehouse (after (.manifestAccept .warehouse 1 4 1) (loaded [])) = some (0x48, .param) := by decide

/-! ## The queue service, the grant judgment and the invariants -/

/-- D01 waits and zone Z2 is queued, with nothing in their way. -/
def waiting : State :=
  ((doorIn .sealed inbound).putWait 0 [0] |>.modUnit 1 fun u => { u with state := .requested, deferral := ⟨true, 9⟩ })
    |>.setDefrostQueue [1]

theorem test_settle :
    DefrostInv waiting ∧ WaitsInv waiting ∧ doorState (settle waiting) 0 = .opened ∧ unitState (settle waiting) 1 = .pumpdown ∧
    (settle waiting).waits.get 0 = [] ∧ (settle waiting).defrostQueue = [] := by
  unfold DefrostInv WaitsInv; decide

theorem test_settle_passes_over_a_forced_zone :
    let s := (forced waiting).modUnit 0 (fun u => { u with state := .requested }) |>.setDefrostQueue [0, 1]
    (settle s).defrostQueue = [0] ∧ unitState (settle s) 1 = .pumpdown := by decide

theorem test_alarms_invariant_holds_somewhere : AlarmsInv quiet := by unfold AlarmsInv; decide
theorem test_permit_invariant_holds_somewhere : PermitInv (openDoor inbound) := by unfold PermitInv; decide
theorem test_defrost_invariant_holds_somewhere : DefrostInv (unitIn .heat) := by unfold DefrostInv; decide
theorem test_slots_invariant_holds_somewhere : SlotsInv (unitIn .heat) ∧ QueueInv quiet := by unfold SlotsInv QueueInv; decide
theorem test_waits_invariant_holds_somewhere : WaitsInv waiting ∧ ShutInDefrost waiting := by
  unfold WaitsInv ShutInDefrost; decide
theorem test_table_invariant_holds_somewhere : TableInv inLane ∧ Settled quiet := by unfold TableInv Settled; decide

theorem test_table_and_lanes_invariants_hold_together : TableInv inLane ∧ LanesInv inLane := by
  refine ⟨by unfold TableInv; decide, fun l => ⟨by revert l; decide, fun tag => ?_⟩, by decide⟩
  have h : inLane.lanes.get l = if l = 0 then [5] else [] := by revert l; decide
  have hp : inLane.pallets = [pallet 5 (.at (.lane 0))] := rfl
  rw [h, hp]
  by_cases hl : l = 0 <;> simp [hl, pallet, eq_comm]

theorem test_steps_exist : (∃ t, step quiet = .next t) ∧ (∃ t, step (openDoor inbound) = .next t) ∧ ∃ t, step inLane = .next t :=
  ⟨⟨_, rfl⟩, ⟨_, rfl⟩, ⟨_, rfl⟩⟩

end Sys2Proof.Tests.Slice0
end

section
/-! SUPPORT. What a raise and a clear make of the Alarm List's entries, and what the shared operations leave of them: `Alarmed ks s t` says
that outside the kinds `ks` every entry is as it was. -/

namespace Sys2Proof.Machine

/-! ## Entries by kind and subject -/

theorem isFor_iff (k : AlarmKind) (sub : Subject) (e : AlarmEntry) :
    AlarmEntry.isFor k sub e = true ↔ e.kind = k ∧ e.subject = sub := by
  simp [AlarmEntry.isFor]

theorem find_isFor {a : AlarmList} {k : AlarmKind} {sub : Subject} {e : AlarmEntry} (h : a.find k sub = some e) :
    e.kind = k ∧ e.subject = sub := (isFor_iff k sub e).1 (List.find?_some (p := AlarmEntry.isFor k sub) h)

/-- A change of the entries of one key that keeps their key changes what is found for that key alone. -/
theorem find_update (a : AlarmList) (k k' : AlarmKind) (sub sub' : Subject) (f : AlarmEntry → AlarmEntry)
    (hf : ∀ e, (f e).kind = e.kind ∧ (f e).subject = e.subject) :
    (a.update k sub f).find k' sub' =
      (a.find k' sub').map fun e => if AlarmEntry.isFor k sub e then f e else e := by
  have hp : (AlarmEntry.isFor k' sub' ∘ fun e => if AlarmEntry.isFor k sub e then f e else e) = AlarmEntry.isFor k' sub' := by
    funext e
    simp only [Function.comp_apply]
    split
    · simp [AlarmEntry.isFor, hf e]
    · rfl
  simp only [AlarmList.find, AlarmList.update, List.find?_map, hp]

theorem find_update_same (a : AlarmList) (k : AlarmKind) (sub : Subject) (f : AlarmEntry → AlarmEntry)
    (hf : ∀ e, (f e).kind = e.kind ∧ (f e).subject = e.subject) :
    (a.update k sub f).find k sub = (a.find k sub).map f := by
  rw [find_update a k k sub sub f hf]
  cases h : a.find k sub with
  | none => rfl
  | some e => simp [(isFor_iff k sub e).2 (find_isFor h)]

theorem find_update_other {a : AlarmList} {k k' : AlarmKind} {sub sub' : Subject} {f : AlarmEntry → AlarmEntry}
    (hf : ∀ e, (f e).kind = e.kind ∧ (f e).subject = e.subject) (h : ¬ (k' = k ∧ sub' = sub)) :
    (a.update k sub f).find k' sub' = a.find k' sub' := by
  rw [find_update a k k' sub sub' f hf]
  cases he : a.find k' sub' with
  | none => rfl
  | some e => simp [isFor_iff, find_isFor he, h]

theorem find_remove_same (a : AlarmList) (k : AlarmKind) (sub : Subject) : (a.remove k sub).find k sub = none := by
  simp [AlarmList.find, AlarmList.remove, List.find?_eq_none]

theorem find_remove_other {a : AlarmList} {k k' : AlarmKind} {sub sub' : Subject} (h : ¬ (k' = k ∧ sub' = sub)) :
    (a.remove k sub).find k' sub' = a.find k' sub' := by
  simp only [AlarmList.find, AlarmList.remove, List.find?_filter]
  congr 1
  funext e
  cases hf : AlarmEntry.isFor k' sub' e with
  | false => simp
  | true =>
    have hn : AlarmEntry.isFor k sub e = false := by
      rw [← Bool.not_eq_true, isFor_iff]
      rw [isFor_iff] at hf
      rwa [hf.1, hf.2]
    simp [hn]

/-! ## A raise and a clear at the list (R169 to R172) -/

/-- After a raise of a condition kind its entry is active, or the list had no room for it. -/
theorem raised_stands (a : AlarmList) {k : AlarmKind} (hk : k.isEvent = false) (sub : Subject) (now : Nat) :
    (∃ e, (a.raised k sub now).1.find k sub = some e ∧ e.state ≠ .clearedUnacked) ∨ (a.raised k sub now).1.overflow = true := by
  unfold AlarmList.raised
  cases hf : a.find k sub with
  | none =>
    dsimp only
    split
    · refine Or.inl ⟨newEntry k sub now, ?_, by simp [newEntry, hk]⟩
      have hn : a.entries.find? (AlarmEntry.isFor k sub) = none := hf
      simp [AlarmList.find, List.find?_append, hn, newEntry, AlarmEntry.isFor]
    · exact Or.inr rfl
  | some e =>
    have hkind := (find_isFor hf).1
    cases he : e.state with
    | clearedUnacked =>
      refine Or.inl ⟨e.again now, ?_, by simp [AlarmEntry.again, hkind, hk]⟩
      simp only [he]
      rw [find_update_same a k sub (AlarmEntry.again now) (fun _ => ⟨rfl, rfl⟩), hf]
      rfl
    | activeUnacked => exact Or.inl ⟨e, by simp [he, hf], by simp [he]⟩
    | activeAcked => exact Or.inl ⟨e, by simp [he, hf], by simp [he]⟩

theorem raised_find_other (a : AlarmList) {k k' : AlarmKind} {sub sub' : Subject} (now : Nat) (h : ¬ (k' = k ∧ sub' = sub)) :
    (a.raised k sub now).1.find k' sub' = a.find k' sub' := by
  unfold AlarmList.raised
  split
  · split
    · have hn : ¬ (k = k' ∧ sub = sub') := fun ⟨a, b⟩ => h ⟨a.symm, b.symm⟩
      simp [AlarmList.find, List.find?_append, newEntry, AlarmEntry.isFor, hn]
    · rfl
  · split
    · exact find_update_other (fun _ => ⟨rfl, rfl⟩) h
    · rfl
    · rfl

theorem raised_overflow (a : AlarmList) (k : AlarmKind) (sub : Subject) (now : Nat) (h : a.overflow = true) :
    (a.raised k sub now).1.overflow = true := by
  unfold AlarmList.raised
  split
  · split
    · exact h
    · rfl
  · split <;> exact h

/-- After a clear no entry of the kind and subject is active (R171). -/
theorem clearedFor_cleared (a : AlarmList) (k : AlarmKind) (sub : Subject) (now : Nat) (e : AlarmEntry)
    (h : (a.clearedFor k sub now).1.find k sub = some e) : e.state = .clearedUnacked := by
  unfold AlarmList.clearedFor at h
  cases hf : a.find k sub with
  | none => simp [hf] at h
  | some x =>
    cases hx : x.state with
    | activeUnacked =>
      simp only [hf, hx, find_update_same a k sub (fun e => { e with state := .clearedUnacked, last := now })
        (fun _ => ⟨rfl, rfl⟩), Option.map_some, Option.some.injEq] at h
      rw [← h]
    | activeAcked => simp [hf, hx, find_remove_same] at h
    | clearedUnacked =>
      simp only [hf, hx, Option.some.injEq] at h
      rw [← h, hx]

theorem clearedFor_find_other (a : AlarmList) {k k' : AlarmKind} {sub sub' : Subject} (now : Nat) (h : ¬ (k' = k ∧ sub' = sub)) :
    (a.clearedFor k sub now).1.find k' sub' = a.find k' sub' := by
  unfold AlarmList.clearedFor
  split
  · rfl
  · split
    · exact find_update_other (fun _ => ⟨rfl, rfl⟩) h
    · exact find_remove_other h
    · rfl

/-! ## A raise and a clear at the state -/

/-- A raise or a clear that changes nothing answers the list it was given. -/
theorem raised_same {a : AlarmList} {k : AlarmKind} {sub : Subject} {now : Nat} (h : (a.raised k sub now).2 = false) :
    (a.raised k sub now).1 = a := by
  unfold AlarmList.raised at h ⊢
  split at h
  · split at h
    · cases h
    · next hn => simp only [Bool.not_eq_false'] at h; simp [hn, ← h]
  · split at h <;> simp_all

theorem clearedFor_same {a : AlarmList} {k : AlarmKind} {sub : Subject} {now : Nat} (h : (a.clearedFor k sub now).2 = false) :
    (a.clearedFor k sub now).1 = a := by
  unfold AlarmList.clearedFor at h ⊢
  split at h
  · rfl
  · split at h <;> simp_all

/-- What `commitAlarms` puts in place has the given list's entries and overflow marker, where no change answers the list as it was. -/
theorem commitAlarms_list {r : AlarmList × Bool} {s : State} (h : r.2 = false → r.1 = s.alarms) :
    (commitAlarms r s).alarms.entries = r.1.entries ∧ (commitAlarms r s).alarms.overflow = r.1.overflow := by
  rw [commitAlarms_alarms]
  split
  · exact ⟨rfl, rfl⟩
  · next hr => rw [h (by simpa using hr)]; exact ⟨rfl, rfl⟩

theorem raise_find (k : AlarmKind) (sub : Subject) (s : State) (k' : AlarmKind) (sub' : Subject) :
    (raise k sub s).alarms.find k' sub' = (s.alarms.raised k sub s.clock).1.find k' sub' :=
  congrArg (List.find? _) (commitAlarms_list fun h => raised_same h).1

theorem clear_find (k : AlarmKind) (sub : Subject) (s : State) (k' : AlarmKind) (sub' : Subject) :
    (clear k sub s).alarms.find k' sub' = (s.alarms.clearedFor k sub s.clock).1.find k' sub' :=
  congrArg (List.find? _) (commitAlarms_list fun h => clearedFor_same h).1

theorem raise_overflow (k : AlarmKind) (sub : Subject) (s : State) :
    (raise k sub s).alarms.overflow = (s.alarms.raised k sub s.clock).1.overflow :=
  (commitAlarms_list fun h => raised_same h).2

@[simp] theorem clear_overflow (k : AlarmKind) (sub : Subject) (s : State) :
    (clear k sub s).alarms.overflow = s.alarms.overflow :=
  (commitAlarms_list fun h => clearedFor_same h).2.trans (cleared_overflow _ _ _ _)

/-- A raised condition stands (R169, R172). -/
theorem stands_raise {k : AlarmKind} (hk : k.isEvent = false) (sub : Subject) (s : State) : Stands k sub (raise k sub s) := by
  unfold Stands
  rw [raise_find, raise_overflow]
  exact raised_stands _ hk _ _

/-- A cleared condition does not stand (R171). -/
theorem cleared_clear (k : AlarmKind) (sub : Subject) (s : State) : Cleared k sub (clear k sub s) := by
  intro e h
  rw [clear_find] at h
  exact clearedFor_cleared _ _ _ _ _ h

/-! ## Only the alarms of some kinds change -/

/-- Outside these kinds every entry is as it was, and an overflow marker that is set stays set. -/
def Alarmed (ks : List AlarmKind) (s t : State) : Prop :=
  (s.alarms.overflow = true → t.alarms.overflow = true) ∧ ∀ k sub, k ∉ ks → t.alarms.find k sub = s.alarms.find k sub

theorem Alarmed.rfl {ks : List AlarmKind} {s : State} : Alarmed ks s s := ⟨id, fun _ _ _ => Eq.refl _⟩

theorem Alarmed.trans {ks : List AlarmKind} {s t u : State} (a : Alarmed ks s t) (b : Alarmed ks t u) : Alarmed ks s u :=
  ⟨fun h => b.1 (a.1 h), fun k sub h => (b.2 k sub h).trans (a.2 k sub h)⟩

theorem Alarmed.wider {ks js : List AlarmKind} {s t : State} (a : Alarmed ks s t) (h : ∀ k ∈ ks, k ∈ js) : Alarmed js s t :=
  ⟨a.1, fun k sub hk => a.2 k sub fun hm => hk (h k hm)⟩

/-- An operation that leaves the Alarm List alone. -/
theorem Alarmed.of_alarms {ks : List AlarmKind} {s t : State} (h : t.alarms = s.alarms) : Alarmed ks s t := by
  unfold Alarmed; rw [h]; exact Alarmed.rfl

theorem Stands.alarmed {k : AlarmKind} {sub : Subject} {ks : List AlarmKind} {s t : State} (h : Stands k sub s)
    (a : Alarmed ks s t) (hk : k ∉ ks) : Stands k sub t := by
  unfold Stands at *
  rw [a.2 k sub hk]
  exact h.imp_right a.1

theorem Cleared.alarmed {k : AlarmKind} {sub : Subject} {ks : List AlarmKind} {s t : State} (h : Cleared k sub s)
    (a : Alarmed ks s t) (hk : k ∉ ks) : Cleared k sub t := by
  unfold Cleared at *
  rw [a.2 k sub hk]
  exact h

theorem alarmed_raise (k : AlarmKind) (sub : Subject) (s : State) : Alarmed [k] s (raise k sub s) := by
  refine ⟨fun h => ?_, fun k' sub' h => ?_⟩
  · rw [raise_overflow]; exact raised_overflow _ _ _ _ h
  · rw [raise_find]; exact raised_find_other _ _ fun e => h (by simp [e.1])

theorem alarmed_clear (k : AlarmKind) (sub : Subject) (s : State) : Alarmed [k] s (clear k sub s) := by
  refine ⟨fun h => by rwa [clear_overflow], fun k' sub' h => ?_⟩
  rw [clear_find]; exact clearedFor_find_other _ _ fun e => h (by simp [e.1])

/-! ## The queue service and the grants -/

theorem alarmed_endForced (d : DoorId) (s : State) : Alarmed [.doorForced] s (endForced d s) := by
  unfold endForced; split
  · exact Alarmed.trans (Alarmed.of_alarms (by rfl)) (alarmed_clear _ _ _)
  · exact Alarmed.rfl

theorem alarmed_openEntry (d : DoorId) (s : State) : Alarmed [.doorForced] s (openEntry d s) :=
  Alarmed.trans (alarmed_endForced d s) (Alarmed.of_alarms (by rfl))

theorem alarmed_serviceZone (z : ZoneId) (n : Nat) (s : State) : Alarmed [.doorForced] s (serviceZone z n s) := by
  induction n generalizing s with
  | zero => exact Alarmed.rfl
  | succ n ih =>
    unfold serviceZone
    split
    · exact Alarmed.rfl
    · split
      · exact (((Alarmed.of_alarms (by rfl)).trans (alarmed_openEntry _ (s.putWait z _))).trans
          (Alarmed.of_alarms (by rfl))).trans (ih _)
      · exact Alarmed.rfl

theorem alarmed_serviceAll (s : State) : Alarmed [.doorForced] s (serviceAll s) :=
  forEach_inv (Alarmed [.doorForced] s) service (fun z _ h => h.trans (alarmed_serviceZone z _ _)) _ s Alarmed.rfl

theorem alarmed_endDeferred (z : ZoneId) (s : State) : Alarmed [.defrostDeferred] s (endDeferred z s) := by
  unfold endDeferred; split
  · exact Alarmed.trans (Alarmed.of_alarms (by rfl)) (alarmed_clear _ _ _)
  · exact Alarmed.rfl

theorem alarmed_leaveRequested (z : ZoneId) (s : State) : Alarmed [.defrostDeferred] s (leaveRequested z s) :=
  Alarmed.trans (Alarmed.of_alarms (by rfl)) (alarmed_endDeferred z _)

theorem alarmed_grantDefrost (z : ZoneId) (s : State) : Alarmed [.defrostDeferred] s (grantDefrost z s) :=
  Alarmed.trans (alarmed_leaveRequested z s) (Alarmed.of_alarms (by rfl))

theorem alarmed_grantLoop (n : Nat) (s : State) : Alarmed [.defrostDeferred] s (grantLoop n s) := by
  induction n generalizing s with
  | zero => exact Alarmed.rfl
  | succ n ih =>
    unfold grantLoop
    split
    · exact Alarmed.rfl
    · exact Alarmed.trans (alarmed_grantDefrost _ _) (ih _)

/-- The queue service and the grant judgment touch DOOR FORCED and DEFROST DEFERRED alone (R105, R141). -/
theorem alarmed_settle (s : State) : Alarmed [.doorForced, .defrostDeferred] s (settle s) :=
  Alarmed.trans ((alarmed_serviceAll s).wider (by simp)) ((alarmed_grantLoop _ _).wider (by simp))

/-- The queue service and the grant judgment change the docks and the reports alone. -/
theorem onlyDocks_settle (s : State) : OnlyDocks s (settle s) := by
  unfold OnlyDocks
  apply state_eq <;> simp

end Sys2Proof.Machine
end

section
/-! PROOFS. The probe machine, the reference check and the expiry of a condition's delay timer (01_zone_temperatures_and_probes.md R3 to R9,
R13 to R17). -/

namespace Sys2Proof.Machine

/-! ## The probe machine (R5 to R9) -/

/-- The history of four: the oldest sample goes where there are four (R9). -/
theorem pushSample_eq (h : List Int) (t : Int) : pushSample h t = h.drop (h.length - 3) ++ [t] := by
  unfold pushSample
  split
  · rfl
  · next hn => rw [show h.length - 3 = 0 by omega, List.drop_zero]

theorem filterMean_push (h : List Int) (t : Int) :
    filterMean (pushSample h t) = some (roundNearest (pushSample h t).sum (pushSample h t).length) := by
  simp [filterMean, pushSample_eq]

@[simp] theorem take_good (p : Probe) (t : Int) : p.take (.good t) = { p.takeGood t with last := some (.good t) } := rfl

theorem take_bad (p : Probe) {x : Sample} (h : ∀ y, x ≠ .good y) : p.take x = { p.takeBad with last := some x } := by
  cases x with
  | good t => exact absurd rfl (h t)
  | short => rfl
  | openCircuit => rfl
  | range => rfl
  | reference => rfl

@[simp] theorem take_last (p : Probe) (x : Sample) : (p.take x).last = some x := by cases x <;> rfl

/-- Settles O24, by the probe's state: the sample's effect is read off the row of R5 to R8 for that state. -/
theorem probeMachine : Obligations.ProbeMachine := by
  unfold Obligations.ProbeMachine
  intro p t x
  dsimp only
  rw [← pushSample_eq p.history t, ← filterMean_push]
  refine ⟨?_, ?_, ?_, ?_, fun hx => ?_⟩
  · intro h; simp [Probe.takeGood, h]
  · intro h; simp [Probe.takeGood, h]
  · intro h hg; simp [Probe.takeGood, h, show ¬ 4 ≤ p.good + 1 by omega]
  · intro h hg; simp [Probe.takeGood, h, hg]
  · rw [take_bad p hx]
    refine ⟨?_, ?_, ?_, ?_⟩
    · intro h; simp [Probe.takeBad, h]
    · intro h hb; simp [Probe.takeBad, h, show ¬ 3 ≤ p.bad + 1 by omega]
    · intro h hb; simp [Probe.takeBad, h, hb]
    · intro h; simp [Probe.takeBad, h]

/-! ## The reference check (R3, R4) -/

/-- Both codes lie in their windows (R3). -/
theorem checkGood_iff (a b : Nat) : checkGood a b = true ↔ 4032 ≤ a ∧ a ≤ 4160 ∧ 12224 ≤ b ∧ b ≤ 12352 := by
  simp only [checkGood, Bool.and_eq_true, decide_eq_true_eq, and_assoc]
  exact Iff.rfl

/-- The rows of R4's table. -/
theorem judge_bad (c : Converter) : (c.judge false).fault = true ∧ (c.judge false).goodCount = 0 := by
  cases h : c.fault <;> simp [Converter.judge, h]

theorem judge_good_sound {c : Converter} (h : c.fault = false) : c.judge true = c := by
  simp [Converter.judge, h]

theorem judge_good_first {c : Converter} (h : c.fault = true) (h0 : c.goodCount = 0) : c.judge true = { c with goodCount := 1 } := by
  simp [Converter.judge, h, h0]

theorem judge_good_second {c : Converter} (h : c.fault = true) (h1 : c.goodCount = 1) :
    c.judge true = { c with fault := false, goodCount := 0 } := by
  simp [Converter.judge, h, h1]

theorem exec_referenceCheck {s : State} (h : s.power ≠ .off) (a b : Nat) :
    exec (.referenceCheck a b) s = .next (takeCheck a b s) := whenPowered_on h

/-- What the turn of the converter state tells the Alarm List (R4). -/
def converterAlarms (was stands : Bool) (s : State) : AlarmList :=
  if stands && !was then (raise .converterFault .none s).alarms
  else if was && !stands then (clear .converterFault .none s).alarms
  else s.alarms

/-- What a reference check can do: the converter takes the result, and CONVERTER FAULT is raised or cleared where the state turned (R4). -/
theorem takeCheck_frame (a b : Nat) (s : State) :
    let c := s.converter.judge (checkGood a b)
    takeCheck a b s = { s with converter := ⟨c.fault, c.goodCount, true, 0⟩, alarms := converterAlarms s.converter.fault c.fault s,
                               ports := (takeCheck a b s).ports } ∧
    Told [.alarmChange] s (takeCheck a b s) := by
  dsimp only
  have hset : ∀ c, Told [.alarmChange] s (s.setConverter c) := fun _ => Told.of_ports rfl
  unfold takeCheck converterAlarms
  dsimp only
  split
  · exact ⟨by apply state_eq <;> simp [raise, commitAlarms_alarms], (hset _).trans (told_raise _ _ _)⟩
  · split
    · exact ⟨by apply state_eq <;> simp [clear, commitAlarms_alarms], (hset _).trans (told_clear _ _ _)⟩
    · exact ⟨by apply state_eq <;> simp, hset _⟩

/-- Settles O25: each row of R4's table gives the converter's fault flag and count, and with them what the Alarm List is told. -/
theorem referenceCheckTable : Obligations.ReferenceCheckTable := by
  unfold Obligations.ReferenceCheckTable
  intro a b s hp
  dsimp only
  obtain ⟨hframe, htold⟩ := takeCheck_frame a b s
  have becomes : ∀ (fault : Bool) (count : Nat) (al : AlarmList),
      (s.converter.judge (checkGood a b)).fault = fault → (s.converter.judge (checkGood a b)).goodCount = count →
      converterAlarms s.converter.fault fault s = al →
      ∃ t, exec (.referenceCheck a b) s = .next t ∧
        t = { s with converter := ⟨fault, count, true, 0⟩, alarms := al, ports := t.ports } ∧ PortsKept s t ∧
        OnlyNotices [.alarmChange] s t := by
    rintro _ _ _ rfl rfl rfl
    exact ⟨_, exec_referenceCheck hp a b, hframe, htold.kept, htold.only⟩
  rw [← checkGood_iff a b]
  have bad : ¬ checkGood a b = true → s.converter.judge (checkGood a b) = s.converter.judge false := fun hg => by
    rw [Bool.not_eq_true] at hg; rw [hg]
  refine ⟨fun hf hg => ?_, fun hf hg => ?_, fun hf hg => ?_, fun hf hg hc => ?_, fun hf hg hc => ?_⟩
  · apply becomes <;> simp [hg, judge_good_sound hf, hf, converterAlarms]
  · apply becomes <;> simp [bad hg, judge_bad, hf, converterAlarms]
  · apply becomes <;> simp [bad hg, judge_bad, hf, converterAlarms]
  · apply becomes <;> simp [hg, judge_good_first hf hc, hf, converterAlarms]
  · apply becomes <;> simp [hg, judge_good_second hf hc, hf, converterAlarms]

/-! ## A delay timer expires (R13, R15 to R17) -/

/-- The filtered air value is missing or not to be trusted (R10, R15). -/
theorem substituted_iff (a : Probe) : a.substituted = true ↔ a.state = .fault ∨ a.filtered = none := by
  simp [Probe.substituted]

/-- The delay timer runs only in PENDING, outside the freeze and the bypass (R13, R15, R16). -/
theorem conditionTimerRuns_iff (s : State) (z : ZoneId) (k : ConditionKind) :
    conditionTimerRuns s z k = true ↔
      ((s.zones.get z).condition k).state = .pending ∧ (s.zones.get z).air.state ≠ .fault ∧
      (s.zones.get z).air.filtered ≠ none ∧ ((unitState s z).bypasses = false ∨ k = .low) := by
  have hfrozen : (!conditionsFrozen s z) = true ↔ (s.zones.get z).air.state ≠ .fault ∧ (s.zones.get z).air.filtered ≠ none := by
    rw [Bool.not_eq_true', ← Bool.not_eq_true, ← not_or]
    exact not_congr (substituted_iff _)
  have hbypass : (!conditionBypassed s z k) = true ↔ (unitState s z).bypasses = false ∨ k = .low := by
    unfold conditionBypassed bypassed unitState
    cases (s.units.get z).state.bypasses <;> cases k <;> decide
  unfold conditionTimerRuns
  rw [Bool.and_eq_true, Bool.and_eq_true, hfrozen, hbypass, beq_iff_eq, and_assoc, and_assoc]

theorem exec_conditionTimerExpiry {s : State} (h : s.power = .running) (z : ZoneId) (k : ConditionKind) :
    exec (.conditionTimerExpiry z k) s = .next (conditionExpires z k s) := whenRunning_on h

/-- The state with the condition ACTIVE, before its alarm and notice. -/
def activated (z : ZoneId) (k : ConditionKind) (s : State) : State :=
  s.putZone z ((s.zones.get z).withCondition k ⟨.active, (zoneEntry s z).alarmDelay⟩)

theorem conditionExpires_runs {z : ZoneId} {k : ConditionKind} {s : State} (h : conditionTimerRuns s z k = true) :
    conditionExpires z k s = post .zoneChange (raise (conditionAlarm k) (.zone z) (activated z k s)) := if_pos h

theorem conditionExpires_idle {z : ZoneId} {k : ConditionKind} {s : State} (h : ¬ conditionTimerRuns s z k = true) :
    conditionExpires z k s = s := if_neg h

/-- A raise answers the same list in every state with this list and this clock. -/
theorem raise_alarms_congr {s t : State} (ha : t.alarms = s.alarms) (hc : t.clock = s.clock) (k : AlarmKind) (sub : Subject) :
    (raise k sub t).alarms = (raise k sub s).alarms := by
  unfold raise
  rw [commitAlarms_alarms, commitAlarms_alarms, ha, hc]

/-- Settles O27: the expiry acts exactly where the timer runs, and then is one put, one raise and one post. -/
theorem conditionTimerExpires : Obligations.ConditionTimerExpires := by
  unfold Obligations.ConditionTimerExpires
  intro z k s hp
  dsimp only
  rw [← conditionTimerRuns_iff, exec_conditionTimerExpiry hp]
  refine ⟨fun hr => by rw [conditionExpires_idle hr], fun hr => ⟨_, rfl, ?_⟩⟩
  have htold : Told [.alarmChange, .zoneChange] s (post .zoneChange (raise (conditionAlarm k) (.zone z) (activated z k s))) :=
    (Told.of_ports (t := activated z k s) rfl).trans
      (((told_raise _ _ _).wider (by simp)).trans ((told_post _ _).wider (by simp)))
  rw [conditionExpires_runs hr]
  refine ⟨?zone, fun y hy => ?others, ?alarms, posted_post _ _, htold.kept, htold.only, ?frame⟩
  case zone => rw [post_zones, raise_zones]; exact bank_get_put_same _ _ _
  case others => rw [post_zones, raise_zones]; exact bank_get_put_other _ _ _ _ hy.symm
  case alarms => exact raise_alarms_congr (s := s) (t := activated z k s) rfl rfl (conditionAlarm k) (.zone z)
  case frame => apply state_eq <;> simp [activated]

end Sys2Proof.Machine
end

section
/-! PROOFS. A second of the part's own time on an empty queue (00_scope.md section 0.7, notes/assumptions/2.md). -/

namespace Sys2Proof.Machine

theorem step_empty {s : State} (h : s.pending = []) : step s = .next (secondTick s) := by simp [step, h]

theorem secondTick_off {s : State} (h : s.power = .off) : secondTick s = s := by simp [secondTick, h]

/-- The fields a second changes, each by its own tick. -/
theorem secondTick_on {s : State} (h : s.power ≠ .off) : secondTick s = { s with
    converter := s.converter.tick, zones := Bank.ofFn (tickZone s), exposure := s.exposure.tick,
    pallets := if s.power = .running then s.pallets.map tickPallet else s.pallets,
    doors := s.doors.map DoorRecord.tick, loop := s.loop.tick, units := s.units.map DefrostUnit.tick,
    alarms := s.alarms.tick, ports := s.ports.map PortRecord.tick } := by simp [secondTick, h]

/-- A delay timer that runs counts up to the alarm delay (R13, R15, R16). -/
theorem tickCondition_eq (s : State) (z : ZoneId) (k : ConditionKind) :
    tickCondition s z k ((s.zones.get z).condition k) =
      if ((s.zones.get z).condition k).state = .pending ∧ (s.zones.get z).air.state ≠ .fault ∧
          (s.zones.get z).air.filtered ≠ none ∧ ((unitState s z).bypasses = false ∨ k = .low) then
        { (s.zones.get z).condition k with timer := min (zoneEntry s z).alarmDelay (((s.zones.get z).condition k).timer + 1) }
      else (s.zones.get z).condition k := by
  unfold tickCondition
  by_cases hr : conditionTimerRuns s z k = true
  · rw [if_pos hr, if_pos ((conditionTimerRuns_iff s z k).1 hr)]
  · rw [if_neg hr, if_neg fun h => hr ((conditionTimerRuns_iff s z k).2 h)]

/-- A running timer counts to 65535 (R75, R87, R133, R184). -/
theorem tick_eq (x : Timer) : x.tick = if x.running then ⟨true, min 65535 (x.count + 1)⟩ else x := by
  cases h : x.running <;> simp [Timer.tick, h, Config.countMax]

theorem exposure_tick_eq (e : Exposure) : e.tick = { e with elapsed := match e.period with
    | none => e.elapsed
    | some n => min n (e.elapsed + 1) } := by
  rcases e with ⟨_ | n, elapsed, stamp⟩ <;> rfl

theorem loop_tick_eq (l : Loop) :
    l.tick = { l with attemptTimer := if l.readdressing then min 2 (l.attemptTimer + 1) else l.attemptTimer } := by
  unfold Loop.tick
  split <;> rfl

/-- Settles O2: the second is read off field by field. -/
theorem emptyQueueCountsASecond : Obligations.EmptyQueueCountsASecond := by
  unfold Obligations.EmptyQueueCountsASecond
  intro s hq tick delay
  have htick : ∀ x : Timer, x.tick = tick x := tick_eq
  have hdelay : ∀ z k, tickCondition s z k ((s.zones.get z).condition k) = delay z k := tickCondition_eq s
  refine ⟨fun hp => by rw [step_empty hq, secondTick_off hp], fun hp => ⟨_, step_empty hq, ?_⟩⟩
  rw [secondTick_on hp]
  refine ⟨rfl, rfl, fun z => ?zones, exposure_tick_eq _, fun hr => if_pos hr, fun hr => if_neg hr, fun d => ?doors,
    loop_tick_eq _, fun z => ?units, rfl, fun q => ?ports⟩
  case zones =>
    rw [← hdelay, ← hdelay, ← hdelay]
    exact bank_get_ofFn (tickZone s) z
  case doors =>
    simp only [← htick]
    exact bank_get_map DoorRecord.tick s.doors d
  case units =>
    simp only [← htick]
    exact bank_get_map DefrostUnit.tick s.units z
  case ports =>
    simp only [← htick]
    exact ports_get_map PortRecord.tick s.ports q

end Sys2Proof.Machine
end

section
/-! SUPPORT. What one evaluation of a zone's conditions does, and the tests of the air and the coil that follow a sample
(01_zone_temperatures_and_probes.md R13 to R17, 07_defrost_coordination.md R144, R146). -/

namespace Sys2Proof.Machine

@[simp] theorem bank_put_get_self {α : Type} {n : Nat} (b : Bank α n) (i : Fin n) : b.put i (b.get i) = b := by
  change (⟨b.cells.set i.val b.cells[i.val] i.isLt⟩ : Bank α n) = b
  simp

@[simp] theorem bank_put_put {α : Type} {n : Nat} (b : Bank α n) (i : Fin n) (x y : α) : (b.put i x).put i y = b.put i y := by
  simp [Bank.put]

/-! ## A record's conditions -/

@[simp] theorem withCondition_air (r : ZoneRecord) (k : ConditionKind) (c : Condition) : (r.withCondition k c).air = r.air := by
  cases k <;> rfl

@[simp] theorem withCondition_coil (r : ZoneRecord) (k : ConditionKind) (c : Condition) : (r.withCondition k c).coil = r.coil := by
  cases k <;> rfl

@[simp] theorem withCondition_self (r : ZoneRecord) (k : ConditionKind) : r.withCondition k (r.condition k) = r := by
  cases k <;> rfl

theorem condition_withCondition (r : ZoneRecord) (k j : ConditionKind) (c : Condition) :
    (r.withCondition k c).condition j = if k = j then c else r.condition j := by
  cases k <;> cases j <;> rfl

/-- R13 to R16: what the air makes of one condition; `held`: its timer is held at 0 by the bypass. -/
def ruledOne (e : ZoneEntry) (air : Probe) (k : ConditionKind) (held : Bool) (c : Condition) : Condition :=
  match air.state, air.filtered with
  | .ok, some v => ruledCondition e k held v c
  | .suspect, some v => ruledCondition e k held v c
  | _, _ => if held ∧ c.state = .pending then ⟨.pending, 0⟩ else c

theorem ruledZone_eq (e : ZoneEntry) (b : Bool) (r : ZoneRecord) : ruledZone e b r =
    { r with highWarn := ruledOne e r.air .highWarn b r.highWarn, high := ruledOne e r.air .high b r.high,
             low := ruledOne e r.air .low false r.low } := rfl

@[simp] theorem ruledZone_air (e : ZoneEntry) (b : Bool) (r : ZoneRecord) : (ruledZone e b r).air = r.air := rfl
@[simp] theorem ruledZone_coil (e : ZoneEntry) (b : Bool) (r : ZoneRecord) : (ruledZone e b r).coil = r.coil := rfl

theorem ruledZone_condition (e : ZoneEntry) (b : Bool) (r : ZoneRecord) (k : ConditionKind) :
    (ruledZone e b r).condition k = ruledOne e r.air k (b && k != .low) (r.condition k) := by
  cases k <;> cases b <;> rfl

/-- Frozen, a condition keeps its state (R15), and a PENDING timer stands at 0 under the bypass (R16). -/
theorem ruledOne_frozen {e : ZoneEntry} {air : Probe} (h : air.substituted = true) (k : ConditionKind) (held : Bool) (c : Condition) :
    ruledOne e air k held c = if held ∧ c.state = .pending then ⟨.pending, 0⟩ else c := by
  rw [substituted_iff] at h
  unfold ruledOne
  split <;> simp_all

theorem ruledOne_live {e : ZoneEntry} {air : Probe} {v : Int} (hs : air.state ≠ .fault) (hv : air.filtered = some v)
    (k : ConditionKind) (held : Bool) (c : Condition) : ruledOne e air k held c = ruledCondition e k held v c := by
  unfold ruledOne
  cases h : air.state <;> simp_all

/-- The model's judgment of a condition is the manual's (R13, R14, R16). -/
theorem judgeCondition_eq_ruled (e : ZoneEntry) (k : ConditionKind) (held : Bool) (v : Int) (c : Condition) :
    judgeCondition e k held v c = ruledCondition e k held v c := by
  cases k <;> rfl

theorem holdCondition_eq (held : Bool) (c : Condition) :
    holdCondition held c = if held ∧ c.state = .pending then ⟨.pending, 0⟩ else c := by
  simp [holdCondition]

/-- The evaluation of one condition is the manual's, at the zone's air, entry and bypass. -/
theorem evaluated_eq_ruled (s : State) (z : ZoneId) (k : ConditionKind) :
    evaluated s z k = ruledOne (zoneEntry s z) (s.zones.get z).air k (bypassed s z && k != .low) ((s.zones.get z).condition k) := by
  unfold evaluated conditionsFrozen conditionBypassed
  dsimp only
  cases hf : (s.zones.get z).air.substituted with
  | true => rw [ruledOne_frozen hf, if_pos rfl, holdCondition_eq]
  | false =>
    rw [← Bool.not_eq_true, substituted_iff, not_or] at hf
    obtain ⟨v, hv⟩ := Option.ne_none_iff_exists'.1 hf.2
    simp [hv, ruledOne_live hf.1 hv, judgeCondition_eq_ruled]

/-- A condition that was judged under the bypass is not moved by a second judgment without it: a value at which a condition clears lies a
hysteresis away from one at which it holds. -/
theorem ruledCondition_again (e : ZoneEntry) (k : ConditionKind) (held : Bool) (v : Int) (c : Condition) :
    ruledCondition e k false v (ruledCondition e k held v c) = ruledCondition e k held v c := by
  obtain ⟨st, n⟩ := c
  cases st <;> cases k <;> simp only [ruledCondition] <;> grind

theorem ruledOne_again (e : ZoneEntry) (air : Probe) (k : ConditionKind) (held : Bool) (c : Condition) :
    ruledOne e air k false (ruledOne e air k held c) = ruledOne e air k held c := by
  cases hf : air.substituted with
  | true => simp [ruledOne_frozen hf]
  | false =>
    rw [← Bool.not_eq_true, substituted_iff, not_or] at hf
    obtain ⟨v, hv⟩ := Option.ne_none_iff_exists'.1 hf.2
    simp only [ruledOne_live hf.1 hv, ruledCondition_again]

/-! ## One condition's evaluation -/

@[simp] theorem evalCondition_zones (z : ZoneId) (k : ConditionKind) (s : State) :
    (evalCondition z k s).zones = s.zones.put z ((s.zones.get z).withCondition k (evaluated s z k)) := by
  unfold evalCondition; dsimp only; split <;> simp

@[simp] theorem evalCondition_units (z : ZoneId) (k : ConditionKind) (s : State) : (evalCondition z k s).units = s.units := by
  unfold evalCondition; dsimp only; split <;> simp

@[simp] theorem evalCondition_profile (z : ZoneId) (k : ConditionKind) (s : State) : (evalCondition z k s).profile = s.profile := by
  unfold evalCondition; dsimp only; split <;> simp

/-- What a sample's judgment may change before the queue service: zone records, units and the reports. -/
def OnlyZones (s t : State) : Prop := t = { s with zones := t.zones, units := t.units, alarms := t.alarms, ports := t.ports }

theorem OnlyZones.trans {s t u : State} (a : OnlyZones s t) (b : OnlyZones t u) : OnlyZones s u := by
  cases s; cases t; cases u; simp_all [OnlyZones]

theorem onlyZones_evalCondition (z : ZoneId) (k : ConditionKind) (s : State) : OnlyZones s (evalCondition z k s) := by
  unfold evalCondition; dsimp only; split
  · apply state_eq <;> simp
  · apply state_eq <;> simp

theorem told_evalCondition (z : ZoneId) (k : ConditionKind) (s : State) :
    Told [.alarmChange, .zoneChange] s (evalCondition z k s) := by
  unfold evalCondition; dsimp only; split
  · exact (Told.of_ports (by rfl)).trans (((told_clear _ _ _).wider (by simp)).trans ((told_post _ _).wider (by simp)))
  · exact Told.of_ports rfl

theorem alarmed_evalCondition (z : ZoneId) (k : ConditionKind) (s : State) : Alarmed [conditionAlarm k] s (evalCondition z k s) := by
  unfold evalCondition; dsimp only; split
  · exact ((Alarmed.of_alarms (by rfl)).trans (alarmed_clear _ _ (s.putZone z _))).trans (Alarmed.of_alarms (by rfl))
  · exact Alarmed.of_alarms rfl

/-- An exit from ACTIVE clears the condition's alarm and posts ZONE CHANGE (R14, R17). -/
theorem evalCondition_exit {z : ZoneId} {k : ConditionKind} {s : State} (ha : ((s.zones.get z).condition k).state = .active)
    (hx : (evaluated s z k).state ≠ .active) :
    Cleared (conditionAlarm k) (.zone z) (evalCondition z k s) ∧ Posted .zoneChange (evalCondition z k s) := by
  unfold evalCondition
  rw [if_pos (by simp [ha, hx])]
  exact ⟨(cleared_clear _ _ _).alarmed (ks := []) (Alarmed.of_alarms (by rfl)) (by simp), posted_post _ _⟩

theorem evalCondition_idle {z : ZoneId} {k : ConditionKind} {s : State} (h : evaluated s z k = (s.zones.get z).condition k) :
    evalCondition z k s = s := by
  unfold evalCondition
  rw [h]
  simp [State.putZone, State.setZones]

/-! ## The three conditions of a zone -/

theorem evalConditions_used {z : ZoneId} {s : State} (h : zoneUsed s z = true) :
    evalConditions z s = evalCondition z .low (evalCondition z .high (evalCondition z .highWarn s)) := by
  simp [evalConditions, h]

/-- The three conditions are judged by the manual's table (R13 to R16). -/
theorem evalConditions_zones {z : ZoneId} {s : State} (h : zoneUsed s z = true) :
    (evalConditions z s).zones = s.zones.put z (ruledZone (zoneEntry s z) (bypassed s z) (s.zones.get z)) := by
  rw [evalConditions_used h]
  simp only [evalCondition_zones, bank_get_put_same, bank_put_put, evaluated_eq_ruled, zoneEntry, bypassed, evalCondition_profile,
    evalCondition_units, withCondition_air, condition_withCondition]
  congr 1
  cases (s.units.get z).state.bypasses <;> rfl

/-- What the judgment of a sample may do before the queue service and the grants: zone records, units and the reports of the three
conditions and of a phase's end. -/
structure Judges (s t : State) : Prop where
  frame : OnlyZones s t
  told : Told [.alarmChange, .zoneChange, .defrostPhase] s t
  alarmed : Alarmed [.zoneHighWarn, .zoneHigh, .zoneLow] s t

theorem Judges.rfl {s : State} : Judges s s := ⟨Eq.refl _, Told.rfl, Alarmed.rfl⟩

theorem Judges.trans {s t u : State} (a : Judges s t) (b : Judges t u) : Judges s u :=
  ⟨a.frame.trans b.frame, a.told.trans b.told, a.alarmed.trans b.alarmed⟩

theorem judges_evalCondition (z : ZoneId) (k : ConditionKind) (s : State) : Judges s (evalCondition z k s) :=
  ⟨onlyZones_evalCondition z k s, (told_evalCondition z k s).wider (by simp),
    (alarmed_evalCondition z k s).wider (by cases k <;> simp [conditionAlarm])⟩

theorem judges_evalConditions (z : ZoneId) (s : State) : Judges s (evalConditions z s) := by
  unfold evalConditions
  split
  · exact ((judges_evalCondition _ _ _).trans (judges_evalCondition _ _ _)).trans (judges_evalCondition _ _ _)
  · exact Judges.rfl

theorem evalConditions_units (z : ZoneId) (s : State) : (evalConditions z s).units = s.units := by
  unfold evalConditions; split <;> simp

theorem evalConditions_profile (z : ZoneId) (s : State) : (evalConditions z s).profile = s.profile := by
  unfold evalConditions; split <;> simp

/-- Each condition that has left ACTIVE is told of: what the later conditions of the zone report is of their own kinds. -/
theorem evalConditions_exits (z : ZoneId) (s : State) :
    ToldOfExits z (s.zones.get z) ((evalConditions z s).zones.get z) (evalConditions z s) := by
  intro k ha hb
  cases hu : zoneUsed s z with
  | false => simp [evalConditions, hu, ha] at hb
  | true =>
    rw [evalConditions_zones hu, bank_get_put_same, ruledZone_condition] at hb
    rw [evalConditions_used hu]
    generalize h1 : evalCondition z .highWarn s = s1
    generalize h2 : evalCondition z .high s1 = s2
    have told1 : Told [.alarmChange, .zoneChange] s1 s2 := h2 ▸ told_evalCondition _ _ _
    have told2 : Told [.alarmChange, .zoneChange] s2 (evalCondition z .low s2) := told_evalCondition _ _ _
    have alarmed1 : Alarmed [.zoneHigh] s1 s2 := h2 ▸ alarmed_evalCondition z .high s1
    have alarmed2 : Alarmed [.zoneLow] s2 (evalCondition z .low s2) := alarmed_evalCondition _ _ _
    have same : ∀ t : State, t.units = s.units → t.profile = s.profile → (t.zones.get z).air = (s.zones.get z).air →
        (t.zones.get z).condition k = (s.zones.get z).condition k →
        ((t.zones.get z).condition k).state = .active ∧ (evaluated t z k).state ≠ .active := by
      intro t hunit hprofile hair hc
      rw [evaluated_eq_ruled, hair, hc, zoneEntry, hprofile, bypassed, hunit]
      exact ⟨ha, hb⟩
    cases k with
    | highWarn =>
      obtain ⟨hact, hexit⟩ := same s rfl rfl rfl rfl
      obtain ⟨hc, hp⟩ := evalCondition_exit hact hexit
      rw [h1] at hc hp
      exact ⟨(hc.alarmed alarmed1 (by decide)).alarmed alarmed2 (by decide), (hp.told told1).told told2⟩
    | high =>
      obtain ⟨hact, hexit⟩ := same s1 (by simp [← h1]) (by simp [← h1]) (by simp [← h1])
        (by simp [← h1, condition_withCondition])
      obtain ⟨hc, hp⟩ := evalCondition_exit hact hexit
      rw [h2] at hc hp
      exact ⟨hc.alarmed alarmed2 (by decide), hp.told told2⟩
    | low =>
      obtain ⟨hact, hexit⟩ := same s2 (by simp [← h2, ← h1]) (by simp [← h2, ← h1]) (by simp [← h2, ← h1])
        (by simp [← h2, ← h1, condition_withCondition])
      exact evalCondition_exit hact hexit

/-- An evaluation that gives every condition as it stands does nothing. -/
theorem evalConditions_idle {z : ZoneId} {s : State} (h : ∀ k, evaluated s z k = (s.zones.get z).condition k) :
    evalConditions z s = s := by
  unfold evalConditions
  rw [evalCondition_idle (h .highWarn), evalCondition_idle (h .high), evalCondition_idle (h .low), ite_self]

/-! ## The tests that follow a sample -/

@[simp] theorem changePhase_alarms (z : ZoneId) (f : DefrostUnit → DefrostUnit) (s : State) :
    (changePhase z f s).alarms = s.alarms := rfl

theorem judges_changePhase (z : ZoneId) (f : DefrostUnit → DefrostUnit) (s : State) : Judges s (changePhase z f s) :=
  ⟨by unfold OnlyZones changePhase; apply state_eq <;> simp,
    (Told.of_ports rfl).trans ((told_post _ _).wider (by simp)), Alarmed.of_alarms (by rfl)⟩

/-- The unit as RECOVER's end leaves it (R146). -/
def DefrostUnit.rested (u : DefrostUnit) : DefrostUnit := { u with state := .idle, phase := u.phase.stop }

theorem endRecovery_eq (z : ZoneId) (s : State) : endRecovery z s = evalConditions z (changePhase z DefrostUnit.rested s) := rfl

/-- RECOVER's end after an evaluation under the bypass: the evaluation without it, which follows, finds nothing to change (R16, R146). -/
theorem endRecovery_evalConditions {z : ZoneId} {s : State} (hu : zoneUsed s z = true) :
    endRecovery z (evalConditions z s) = changePhase z DefrostUnit.rested (evalConditions z s) := by
  rw [endRecovery_eq]
  refine evalConditions_idle fun k => ?_
  have hidle : bypassed (changePhase z DefrostUnit.rested (evalConditions z s)) z = false := by
    simp [bypassed, changePhase, DefrostUnit.rested, UnitState.bypasses]
  have hentry : zoneEntry (changePhase z DefrostUnit.rested (evalConditions z s)) z =
      zoneEntry s z := by
    simp [zoneEntry, changePhase, evalConditions_profile]
  rw [evaluated_eq_ruled, hidle, hentry, changePhase, post_zones, modUnit_zones, evalConditions_zones hu, bank_get_put_same,
    ruledZone_condition, ruledZone_air, Bool.false_and, ruledOne_again]

/-- The air is cold enough for RECOVER to end (R146). -/
theorem recovered_iff (s : State) (z : ZoneId) : recovered s z = true ↔
    (s.zones.get z).air.state ≠ .fault ∧
      ∃ v, (s.zones.get z).air.filtered = some v ∧ v ≤ (zoneEntry s z).setpoint + (zoneEntry s z).recoveryBand := by
  unfold recovered
  dsimp only
  cases (s.zones.get z).air.filtered <;> simp

/-- What the judgment of a sample does to its zone: the conditions and the recovery test for an air value (R13, R146), the termination test
for a coil value (R144). -/
def judgeSample (z : ZoneId) : ProbeKind → State → State
  | .air, s => testRecovery z (evalConditions z s)
  | .coil, s => testCoil z s

theorem judges_testRecovery (z : ZoneId) (s : State) : Judges s (testRecovery z s) := by
  unfold testRecovery
  split
  · exact (judges_changePhase _ _ _).trans (judges_evalConditions _ _)
  · exact Judges.rfl

theorem judges_testCoil (z : ZoneId) (s : State) : Judges s (testCoil z s) := by
  unfold testCoil
  split
  · exact judges_changePhase _ _ _
  · exact Judges.rfl

theorem testCoil_zones (z : ZoneId) (s : State) : (testCoil z s).zones = s.zones := by
  unfold testCoil
  split <;> rfl

theorem judges_judgeSample (z : ZoneId) (k : ProbeKind) (s : State) : Judges s (judgeSample z k s) := by
  cases k with
  | air => exact (judges_evalConditions z s).trans (judges_testRecovery z _)
  | coil => exact judges_testCoil z s

/-- The air value's judgment: the conditions, and the end of a RECOVER whose air is cold (R16, R146). -/
theorem judgeSample_air {z : ZoneId} {s : State} (hu : zoneUsed s z = true) : judgeSample z .air s =
    if unitState s z = .recover ∧ recovered s z then
      changePhase z DefrostUnit.rested (evalConditions z s)
    else evalConditions z s := by
  have hunit : unitState (evalConditions z s) z = unitState s z := by unfold unitState; rw [evalConditions_units]
  have hrec : recovered (evalConditions z s) z = recovered s z := by
    unfold recovered zoneEntry
    rw [evalConditions_zones hu, evalConditions_profile, bank_get_put_same, ruledZone_air]
  change testRecovery z (evalConditions z s) = _
  unfold testRecovery
  rw [hunit, hrec, endRecovery_evalConditions hu]

theorem judgeSample_air_zones {z : ZoneId} {s : State} (hu : zoneUsed s z = true) : (judgeSample z .air s).zones =
    s.zones.put z (ruledZone (zoneEntry s z) (bypassed s z) (s.zones.get z)) := by
  rw [judgeSample_air hu, ← evalConditions_zones hu]
  split <;> rfl

theorem judgeSample_coil_zones (z : ZoneId) (s : State) : (judgeSample z .coil s).zones = s.zones := testCoil_zones z s

end Sys2Proof.Machine
end

section
/-! PROOFS. A conversion's sample at its probe and in its zone (01_zone_temperatures_and_probes.md R1, R2, R5 to R8, R10, R13 to R17). -/

namespace Sys2Proof.Machine

/-! ## Conversion (R1, R2) -/

/-- The rounded quotient lies within half the divisor, and a half goes away from zero (section 0.7). -/
theorem roundNearest_spec (a : Int) {b : Nat} (hb : 0 < b) :
    2 * (a - b * roundNearest a b).natAbs ≤ b ∧
    (2 * (a - b * roundNearest a b).natAbs = b → a.natAbs < (b * roundNearest a b).natAbs) := by
  have near : ∀ m : Nat, 2 * (b * ((2 * m + b) / (2 * b))) ≤ 2 * m + b ∧ 2 * m + b < 2 * (b * ((2 * m + b) / (2 * b))) + 2 * b := by
    intro m
    have hdiv := Nat.div_add_mod (2 * m + b) (2 * b)
    have hmod := Nat.mod_lt (2 * m + b) (show 0 < 2 * b by omega)
    rw [Nat.mul_assoc] at hdiv
    omega
  unfold roundNearest
  split
  · have h := near a.toNat
    rw [← Int.natCast_mul]
    omega
  · have h := near (-a).toNat
    rw [Int.mul_neg, ← Int.natCast_mul]
    omega

/-- The quotient of R2. -/
theorem roundNearest_code (n : Int) : 2 * (n - 8192 * roundNearest n 8192).natAbs ≤ 8192 ∧
    (2 * (n - 8192 * roundNearest n 8192).natAbs = 8192 → n.natAbs < (8192 * roundNearest n 8192).natAbs) :=
  roundNearest_spec n (b := 8192) (by decide)

theorem channelProbe_span (e : ZoneEntry) (c : Fin 16) :
    probeSpan e (channelProbe c) = if c.val % 2 = 0 then e.airSpan else e.coilSpan := by
  unfold channelProbe; split <;> rfl

theorem channelProbe_offset (e : ZoneEntry) (c : Fin 16) :
    probeOffset e (channelProbe c) = if c.val % 2 = 0 then e.airOffset else e.coilOffset := by
  unfold channelProbe; split <;> rfl

theorem channelProbe_alarm (c : Fin 16) :
    probeAlarm (channelProbe c) = if c.val % 2 = 0 then AlarmKind.airProbeFault else AlarmKind.coilProbeFault := by
  unfold channelProbe; split <;> rfl

theorem zoneUsed_iff (s : State) (z : ZoneId) : zoneUsed s z = true ↔ (zoneEntry s z).kind ≠ .unused := by simp [zoneUsed]

/-- The sample a channel's code gives its zone's probe. -/
def channelSample (c : Fin 16) (code : Nat) (s : State) : Sample :=
  classify s.converter.fault (probeSpan (zoneEntry s (channelZone c)) (channelProbe c))
    (probeOffset (zoneEntry s (channelZone c)) (channelProbe c)) code

theorem exec_conversion {s : State} (hp : s.power = .running) (hs : s.converter.sweepBegun = true) {c : Fin 16}
    (hu : zoneUsed s (channelZone c) = true) (code : Nat) :
    exec (.conversionComplete c code) s = .next (sampleZone (channelZone c) (channelProbe c) (channelSample c code s) s) := by
  change whenRunning (takeConversion c code) s = _
  rw [whenRunning_on hp]
  simp [takeConversion, hs, hu, channelSample]

theorem exec_conversion_idle {s : State} (hp : s.power = .running) {c : Fin 16}
    (h : s.converter.sweepBegun = false ∨ zoneUsed s (channelZone c) = false) (code : Nat) :
    exec (.conversionComplete c code) s = .next s := by
  change whenRunning (takeConversion c code) s = _
  rw [whenRunning_on hp]
  rcases h with h | h <;> simp [takeConversion, h]

/-! ## The sample at its probe -/

@[simp] theorem withProbe_probe (r : ZoneRecord) (k : ProbeKind) (p : Probe) : (r.withProbe k p).probe k = p := by cases k <;> rfl

@[simp] theorem withProbe_condition (r : ZoneRecord) (k : ProbeKind) (p : Probe) (j : ConditionKind) :
    (r.withProbe k p).condition j = r.condition j := by cases k <;> cases j <;> rfl

/-- What the probe's change raises, clears and posts: the reports alone. -/
theorem told_tellProbe (z : ZoneId) (k : ProbeKind) (old new : Probe) (s : State) :
    Told [.alarmChange, .zoneChange] s (tellProbe z k old new s) := by
  unfold tellProbe
  dsimp only
  refine Told.trans ?_ ((told_postIf _ _ _).wider (by simp))
  split
  · exact (told_raise _ _ _).wider (by simp)
  · split
    · exact (told_clear _ _ _).wider (by simp)
    · exact Told.rfl

theorem onlyReports_tellProbe (z : ZoneId) (k : ProbeKind) (old new : Probe) (s : State) :
    OnlyReports s (tellProbe z k old new s) := by
  unfold tellProbe
  dsimp only
  split
  · apply state_eq <;> simp
  · split
    · apply state_eq <;> simp
    · apply state_eq <;> simp

/-- Entry to FAULT raises the probe's alarm (R7). -/
theorem tellProbe_stands {z : ZoneId} {k : ProbeKind} {old new : Probe} (ho : old.state ≠ .fault) (hn : new.state = .fault)
    (s : State) : Stands (probeAlarm k) (.zone z) (tellProbe z k old new s) := by
  have hk : (probeAlarm k).isEvent = false := by cases k <;> rfl
  unfold tellProbe
  dsimp only
  rw [if_pos ⟨ho, hn⟩]
  exact (stands_raise hk _ _).alarmed (ks := []) (Alarmed.of_alarms (postIf_alarms _ _ _)) (by simp)

/-- Leaving FAULT clears it (R8). -/
theorem tellProbe_cleared {z : ZoneId} {k : ProbeKind} {old new : Probe} (ho : old.state = .fault) (hn : new.state ≠ .fault)
    (s : State) : Cleared (probeAlarm k) (.zone z) (tellProbe z k old new s) := by
  unfold tellProbe
  dsimp only
  rw [if_neg fun h => h.1 ho, if_pos ⟨ho, hn⟩]
  exact (cleared_clear _ _ _).alarmed (ks := []) (Alarmed.of_alarms (postIf_alarms _ _ _)) (by simp)

/-- A change of state, and a change of an air probe's substitution flag, posts ZONE CHANGE (R5, R10). -/
theorem tellProbe_posted {z : ZoneId} {k : ProbeKind} {old new : Probe}
    (h : old.state ≠ new.state ∨ (k = .air ∧ old.substituted ≠ new.substituted)) (s : State) :
    Posted .zoneChange (tellProbe z k old new s) := by
  have hb : (old.state != new.state || (k == .air && old.substituted != new.substituted)) = true := by simpa using h
  unfold tellProbe
  rw [hb]
  exact posted_post _ _

/-- The state with the sample at its probe and the probe's change told. -/
def tellSample (z : ZoneId) (k : ProbeKind) (x : Sample) (s : State) : State :=
  tellProbe z k ((s.zones.get z).probe k) (((s.zones.get z).probe k).take x)
    (s.putZone z ((s.zones.get z).withProbe k (((s.zones.get z).probe k).take x)))

/-- A sample is told, judged in its zone, and the queue service and the grants follow. -/
theorem sampleZone_eq (z : ZoneId) (k : ProbeKind) (x : Sample) (s : State) :
    sampleZone z k x s = settle (judgeSample z k (tellSample z k x s)) := by cases k <;> rfl

theorem told_tellSample (z : ZoneId) (k : ProbeKind) (x : Sample) (s : State) :
    Told [.alarmChange, .zoneChange] s (tellSample z k x s) :=
  (Told.of_ports (by rfl)).trans (told_tellProbe z k _ _ (s.putZone z _))

theorem tellSample_eq (z : ZoneId) (k : ProbeKind) (x : Sample) (s : State) : tellSample z k x s =
    { s with zones := s.zones.put z ((s.zones.get z).withProbe k (((s.zones.get z).probe k).take x)),
             alarms := (tellSample z k x s).alarms, ports := (tellSample z k x s).ports } :=
  onlyReports_tellProbe z k _ _ (s.putZone z _)

theorem tellSample_zones (z : ZoneId) (k : ProbeKind) (x : Sample) (s : State) : (tellSample z k x s).zones =
    s.zones.put z ((s.zones.get z).withProbe k (((s.zones.get z).probe k).take x)) := by rw [tellSample_eq]

theorem tellSample_units (z : ZoneId) (k : ProbeKind) (x : Sample) (s : State) : (tellSample z k x s).units = s.units := by
  rw [tellSample_eq]

theorem tellSample_zoneEntry (z : ZoneId) (k : ProbeKind) (x : Sample) (s : State) (y : ZoneId) :
    zoneEntry (tellSample z k x s) y = zoneEntry s y := by rw [tellSample_eq]; rfl

theorem onlyZones_tellSample (z : ZoneId) (k : ProbeKind) (x : Sample) (s : State) : OnlyZones s (tellSample z k x s) := by
  unfold OnlyZones
  rw [tellSample_eq]

theorem zoneUsed_tellSample {z : ZoneId} {k : ProbeKind} {x : Sample} {s : State} (h : zoneUsed s z = true) :
    zoneUsed (tellSample z k x s) z = true := by
  unfold zoneUsed at *
  rwa [tellSample_zoneEntry]

/-! ## The sample in its zone -/

/-- The zone's record after an air sample: its probe takes it, and its conditions are judged (R13 to R16). -/
theorem judged_air_zones {z : ZoneId} {s : State} (hu : zoneUsed s z = true) (x : Sample) :
    (judgeSample z .air (tellSample z .air x s)).zones = s.zones.put z (ruledZone (zoneEntry s z) (s.units.get z).state.bypasses
      { s.zones.get z with air := (s.zones.get z).air.take x }) := by
  rw [judgeSample_air_zones (zoneUsed_tellSample hu), tellSample_zoneEntry, tellSample_zones, bank_put_put, bank_get_put_same, bypassed,
    tellSample_units]
  rfl

theorem judged_coil_zones (z : ZoneId) (s : State) (x : Sample) : (judgeSample z .coil (tellSample z .coil x s)).zones =
    s.zones.put z { s.zones.get z with coil := (s.zones.get z).coil.take x } := by
  rw [judgeSample_coil_zones, tellSample_zones]
  rfl

theorem sampleZone_air_zones {z : ZoneId} {s : State} (hu : zoneUsed s z = true) (x : Sample) :
    (sampleZone z .air x s).zones = s.zones.put z (ruledZone (zoneEntry s z) (s.units.get z).state.bypasses
      { s.zones.get z with air := (s.zones.get z).air.take x }) := by
  rw [sampleZone_eq, settle_zones, judged_air_zones hu]

theorem sampleZone_coil_zones (z : ZoneId) (s : State) (x : Sample) : (sampleZone z .coil x s).zones =
    s.zones.put z { s.zones.get z with coil := (s.zones.get z).coil.take x } := by
  rw [sampleZone_eq, settle_zones, judged_coil_zones]

/-- The probe takes the sample, and the zone's other probe is as it was. -/
theorem sampleZone_probe {z : ZoneId} {s : State} (hu : zoneUsed s z = true) (k j : ProbeKind) (x : Sample) :
    ((sampleZone z k x s).zones.get z).probe j =
      if j = k then ((s.zones.get z).probe k).take x else (s.zones.get z).probe j := by
  cases k
  · rw [sampleZone_air_zones hu, bank_get_put_same]; cases j <;> rfl
  · rw [sampleZone_coil_zones, bank_get_put_same]; cases j <;> rfl

theorem sampleZone_other {z y : ZoneId} {s : State} (hu : zoneUsed s z = true) (h : y ≠ z) (k : ProbeKind) (x : Sample) :
    (sampleZone z k x s).zones.get y = s.zones.get y := by
  cases k
  · rw [sampleZone_air_zones hu, bank_get_put_other _ _ _ _ h.symm]
  · rw [sampleZone_coil_zones, bank_get_put_other _ _ _ _ h.symm]

/-- Nothing but notices reaches the ports. -/
theorem told_sampleZone (z : ZoneId) (k : ProbeKind) (x : Sample) (s : State) :
    ∃ ks, Told ks (tellSample z k x s) (sampleZone z k x s) ∧ Told ks s (sampleZone z k x s) := by
  have hafter : Told ([.zoneChange, .defrostPhase] ++ settleNotices) (tellSample z k x s) (sampleZone z k x s) := by
    rw [sampleZone_eq]
    exact ((judges_judgeSample z k _).told.wider (by simp)).trans ((told_settle _).wider (by simp))
  exact ⟨_, hafter, ((told_tellSample z k x s).wider (by simp)).trans hafter⟩

/-- What follows the probe's change leaves the probe alarms alone. -/
theorem alarmed_sampleZone (z : ZoneId) (k : ProbeKind) (x : Sample) (s : State) :
    Alarmed [.zoneHighWarn, .zoneHigh, .zoneLow, .doorForced, .defrostDeferred] (tellSample z k x s) (sampleZone z k x s) := by
  rw [sampleZone_eq]
  exact ((judges_judgeSample z k _).alarmed.wider (by simp)).trans ((alarmed_settle _).wider (by simp))

/-- What a sample changes: the zones, the units, the docks and the reports. -/
theorem sampleZone_frame (z : ZoneId) (k : ProbeKind) (x : Sample) (s : State) :
    let t := sampleZone z k x s
    t = { s with zones := t.zones, doors := t.doors, waits := t.waits, loop := t.loop, units := t.units,
                 defrostQueue := t.defrostQueue, alarms := t.alarms, ports := t.ports } := by
  dsimp only
  have hzones := (onlyZones_tellSample z k x s).trans (judges_judgeSample z k _).frame
  have hdocks := onlyDocks_settle (judgeSample z k (tellSample z k x s))
  rw [← sampleZone_eq] at hdocks
  generalize judgeSample z k (tellSample z k x s) = u at hzones hdocks
  generalize sampleZone z k x s = t at hdocks
  cases s; cases t; cases u; simp_all [OnlyZones, OnlyDocks]

/-- The substitution flag as R10 words it. -/
theorem substituted_ne {r r' : ZoneRecord}
    (h : ¬ ((r.air.state = .fault ∨ r.air.filtered = none) ↔ (r'.air.state = .fault ∨ r'.air.filtered = none))) :
    r.air.substituted ≠ r'.air.substituted := by
  rw [← substituted_iff, ← substituted_iff] at h
  exact fun e => h (by rw [e])

/-- Settles O23: the code's sample (R1, R2), then the probe's change and what it raises, clears and posts, none of which the conditions,
the tests and the queue service that follow take back. -/
theorem conversionReachesItsProbe : Obligations.ConversionReachesItsProbe := by
  unfold Obligations.ConversionReachesItsProbe
  intro c code s hp _ z k span offset
  have hspan : probeSpan (zoneEntry s z) k = span := channelProbe_span _ c
  have hoffset : probeOffset (zoneEntry s z) k = offset := channelProbe_offset _ c
  refine ⟨fun h => exec_conversion_idle hp (h.imp_right fun hz => ?_) code, fun hs hz => ?_⟩
  · rw [← Bool.not_eq_true, zoneUsed_iff]; exact Classical.not_not.2 hz
  have hu : zoneUsed s z = true := (zoneUsed_iff s z).2 hz
  have hx : channelSample c code s = classify s.converter.fault span offset code := by rw [← hspan, ← hoffset]; rfl
  have hexec : exec (.conversionComplete c code) s = .next (sampleZone z k (channelSample c code s) s) := exec_conversion hp hs hu code
  have halarm : (if c.val % 2 = 0 then AlarmKind.airProbeFault else AlarmKind.coilProbeFault) = probeAlarm k :=
    (channelProbe_alarm c).symm
  generalize channelSample c code s = x at hx hexec
  clear hspan hoffset
  clear_value z k span offset
  obtain ⟨ks, htoldAfter, htold⟩ := told_sampleZone z k x s
  have halarmed := alarmed_sampleZone z k x s
  have hprobe := sampleZone_probe hu k k x
  rw [if_pos rfl] at hprobe
  have hnot : probeAlarm k ∉ [AlarmKind.zoneHighWarn, .zoneHigh, .zoneLow, .doorForced, .defrostDeferred] := by
    cases k <;> decide
  refine ⟨_, x, roundNearest (((code : Int) - 8192) * span) 8192, hexec,
    roundNearest_code _, hx, hprobe, ?last, ?coilKept, ?airKept, ⟨?state, ?flag, ?stands, ?cleared⟩,
    fun y hy => sampleZone_other hu hy k _, htold.kept, sampleZone_frame z k _ s⟩
  case last => exact (congrArg Probe.last hprobe).trans (take_last _ _)
  case coilKept => intro hk; exact (sampleZone_probe hu k .coil x).trans (if_neg (by rw [hk]; decide))
  case airKept =>
    intro hk
    change (sampleZone z k x s).zones.get z = { s.zones.get z with coil := ((sampleZone z k x s).zones.get z).coil }
    rw [hk, sampleZone_coil_zones, bank_get_put_same]
  case state =>
    intro h
    exact (tellProbe_posted (Or.inl (hprobe ▸ h)) _).told htoldAfter
  case flag =>
    intro h
    have hne := substituted_ne h
    cases k with
    | air => exact (tellProbe_posted (Or.inr ⟨rfl, hprobe ▸ hne⟩) _).told htoldAfter
    | coil => exact absurd (congrArg Probe.substituted (sampleZone_probe hu .coil .air x)).symm hne
  case stands =>
    rw [halarm]
    intro ho hn
    exact (tellProbe_stands ho (hprobe ▸ hn) _).alarmed halarmed hnot
  case cleared =>
    rw [halarm]
    intro ho hn
    exact (tellProbe_cleared ho (hprobe ▸ hn) _).alarmed halarmed hnot

/-! ## The conditions at an air sample -/

/-- What was told stays told where the alarms stay and only notices are added. -/
theorem ToldOfExits.told {z : ZoneId} {a b : ZoneRecord} {ks : List NoticeKind} {s t : State} (h : ToldOfExits z a b s)
    (ha : t.alarms = s.alarms) (ht : Told ks s t) : ToldOfExits z a b t := fun k hact hexit =>
  ⟨(h k hact hexit).1.alarmed (ks := []) (Alarmed.of_alarms ha) (by simp), (h k hact hexit).2.told ht⟩

/-- The judgment of an air sample tells of each condition that leaves ACTIVE; the sample itself moves no condition. -/
theorem judged_air_exits {z : ZoneId} {s : State} (hu : zoneUsed s z = true) (x : Sample) :
    let u := judgeSample z .air (tellSample z .air x s)
    ToldOfExits z (s.zones.get z) (u.zones.get z) u := by
  dsimp only
  have hw := evalConditions_exits z (tellSample z .air x s)
  have hzones : (judgeSample z .air (tellSample z .air x s)).zones = (evalConditions z (tellSample z .air x s)).zones := by
    rw [judgeSample_air_zones (zoneUsed_tellSample hu), evalConditions_zones (zoneUsed_tellSample hu)]
  have htold : ToldOfExits z ((tellSample z .air x s).zones.get z) ((evalConditions z (tellSample z .air x s)).zones.get z)
      (judgeSample z .air (tellSample z .air x s)) := by
    rw [judgeSample_air (zoneUsed_tellSample hu)]
    split
    · exact hw.told (changePhase_alarms z _ _) (judges_changePhase z _ _).told
    · exact hw
  rw [hzones]
  intro k hact
  have hsame : (((tellSample z .air x s).zones.get z).condition k) = (s.zones.get z).condition k := by
    rw [tellSample_zones, bank_get_put_same, withProbe_condition]
  exact htold k (hsame ▸ hact)

/-- The recovery test of an air sample, at the air as the sample leaves it (R146). -/
theorem recovered_tellSample (z : ZoneId) (x : Sample) (s : State) : recovered (tellSample z .air x s) z = true ↔
    ((s.zones.get z).air.take x).state ≠ .fault ∧ ∃ v, ((s.zones.get z).air.take x).filtered = some v ∧
      v ≤ (zoneEntry s z).setpoint + (zoneEntry s z).recoveryBand := by
  rw [recovered_iff, tellSample_zoneEntry, tellSample_zones, bank_get_put_same]
  rfl

theorem unitState_tellSample (z : ZoneId) (k : ProbeKind) (x : Sample) (s : State) :
    unitState (tellSample z k x s) z = (s.units.get z).state := by
  unfold unitState; rw [tellSample_units]

/-- The units after an air sample's judgment: only a unit in RECOVER whose air is cold moves (R146). -/
theorem judged_air_units {z : ZoneId} {s : State} (hu : zoneUsed s z = true) (x : Sample) :
    (judgeSample z .air (tellSample z .air x s)).units =
      if (s.units.get z).state = .recover ∧ recovered (tellSample z .air x s) z = true then
        s.units.put z (s.units.get z).rested else s.units := by
  rw [judgeSample_air (zoneUsed_tellSample hu), unitState_tellSample]
  split
  · simp [changePhase, evalConditions_units, tellSample_units]
  · rw [evalConditions_units, tellSample_units]

theorem judged_air_posted {z : ZoneId} {s : State} (hu : zoneUsed s z = true) (x : Sample) (hr : (s.units.get z).state = .recover)
    (hc : recovered (tellSample z .air x s) z = true) : Posted .defrostPhase (judgeSample z .air (tellSample z .air x s)) := by
  rw [judgeSample_air (zoneUsed_tellSample hu), unitState_tellSample, if_pos ⟨hr, hc⟩]
  exact posted_post _ _

/-- The channel of a zone's air probe. -/
theorem channelZone_air (z : ZoneId) : channelZone ⟨2 * z.val, by omega⟩ = z := by
  apply Fin.ext; simp [channelZone]

theorem channelProbe_air (z : ZoneId) : channelProbe ⟨2 * z.val, by omega⟩ = .air := by
  simp [channelProbe]

theorem exec_air_conversion {s : State} (hp : s.power = .running) (hs : s.converter.sweepBegun = true) {z : ZoneId}
    (hu : zoneUsed s z = true) (code : Nat) : exec (.conversionComplete ⟨2 * z.val, by omega⟩ code) s =
      .next (sampleZone z .air (classify s.converter.fault (zoneEntry s z).airSpan (zoneEntry s z).airOffset code) s) := by
  rw [exec_conversion hp hs (by rwa [channelZone_air]), channelSample, channelZone_air, channelProbe_air]
  rfl

/-- Settles O26: the sample is told, its zone's conditions are judged by the manual's table, and the recovery test moves at most the zone's
own unit; the queue service and the grants come after. -/
theorem conditionsFollowTheAir : Obligations.ConditionsFollowTheAir := by
  unfold Obligations.ConditionsFollowTheAir
  intro z code s hp hs hz e x air cold
  have hu : zoneUsed s z = true := (zoneUsed_iff s z).2 hz
  let sample := classify s.converter.fault e.airSpan e.airOffset code
  have hcold : recovered (tellSample z .air sample s) z = true ↔ cold := recovered_tellSample z sample s
  have hunits := judged_air_units hu sample
  have hjudges := judges_judgeSample z .air (tellSample z .air sample s)
  have htold : Told [.alarmChange, .zoneChange, .defrostPhase] s (judgeSample z .air (tellSample z .air sample s)) :=
    ((told_tellSample z .air sample s).wider (by simp)).trans hjudges.told
  refine ⟨_, judgeSample z .air (tellSample z .air sample s), exec_air_conversion hp hs hu code, sampleZone_eq z .air sample s, ?zones,
    ?zone, ?others, judged_air_exits hu sample, ?rests, ?stays, ?units, htold.kept, htold.only,
    (onlyZones_tellSample z .air sample s).trans hjudges.frame⟩
  case zones => exact (sampleZone_air_zones hu sample).trans (judged_air_zones hu sample).symm
  case zone => rw [judged_air_zones hu, bank_get_put_same]
  case others => intro y hy; rw [judged_air_zones hu, bank_get_put_other _ _ _ _ hy.symm]
  case rests =>
    intro hr hc
    refine ⟨?_, judged_air_posted hu sample hr (hcold.2 hc)⟩
    rw [hunits, if_pos ⟨hr, hcold.2 hc⟩, bank_get_put_same]
    rfl
  case stays =>
    intro h
    rw [hunits, if_neg (by rw [hcold]; exact Classical.not_and_iff_not_or_not.2 h)]
  case units =>
    intro y hy
    rw [hunits]
    split
    · exact bank_get_put_other _ _ _ _ hy.symm
    · rfl

end Sys2Proof.Machine
end

section
/-! PROOFS. Charging temperatures and the charge of one record (01_zone_temperatures_and_probes.md R10, R11,
02_exposure_accounting.md R25 to R34). -/

namespace Sys2Proof.Machine

/-! ## Temperatures -/

theorem clampTemp_eq_cut (t : Int) : clampTemp t = cut t := by
  unfold clampTemp clampInt cut Config.tempMin Config.tempMax
  split
  · omega
  · split <;> omega

theorem cut_mono {a b : Int} (h : a ≤ b) : cut a ≤ cut b := by unfold cut; omega

theorem accrualTemp_ok {s : State} {z : ZoneId} (h : (s.zones.get z).air.state ≠ .fault) {v : Int}
    (hv : (s.zones.get z).air.filtered = some v) : accrualTemp s z = cut v := by
  simp [accrualTemp, h, hv, clampTemp_eq_cut]

theorem accrualTemp_fault {s : State} {z : ZoneId} (h : (s.zones.get z).air.state = .fault) {v : Int}
    (hv : (s.zones.get z).air.filtered = some v) : accrualTemp s z = cut (max v (zoneEntry s z).highAlarm) := by
  simp [accrualTemp, h, hv, clampTemp_eq_cut, highAlarm]

theorem accrualTemp_none {s : State} {z : ZoneId} (h : (s.zones.get z).air.filtered = none) :
    accrualTemp s z = cut (zoneEntry s z).highAlarm := by
  simp [accrualTemp, h, clampTemp_eq_cut, highAlarm]

theorem substitutionFlag_iff (s : State) (z : ZoneId) : substitutionFlag s z = true ↔
    (s.zones.get z).air.state = .fault ∨ (s.zones.get z).air.filtered = none := substituted_iff _

theorem maxOf_eq_max? (xs : List Int) : maxOf xs = xs.max? := by
  have hfold : ∀ (ys : List Int) (a : Int), ys.foldl (fun acc x => some (match acc with
      | none => x
      | some a => max a x)) (some a) = some (ys.foldl max a) := by
    intro ys
    induction ys with
    | nil => intro a; rfl
    | cons y ys ih => intro a; exact ih (max a y)
  cases xs with
  | nil => rfl
  | cons x xs => exact hfold xs x

/-- The largest of a list that has a member. -/
theorem maxOf_spec {xs : List Int} (h : xs ≠ []) : ∃ m, maxOf xs = some m ∧ m ∈ xs ∧ ∀ x ∈ xs, x ≤ m := by
  obtain ⟨m, hm⟩ := Option.ne_none_iff_exists'.1 fun e => h (List.max?_eq_none_iff.1 e)
  exact ⟨m, (maxOf_eq_max? xs).trans hm, List.max?_eq_some_iff.1 hm⟩

/-- With no used zone the unresolved charging temperature is +500 (R28). -/
theorem unresolvedTemp_unused {s : State} (h : ∀ z, zoneUsed s z = false) : unresolvedTemp s = 500 := by
  have hnil : allZones.filter (zoneUsed s) = [] := List.filter_eq_nil_iff.2 fun z _ => by simp [h z]
  simp [unresolvedTemp, hnil, maxOf, Config.tempMax]

/-- It is the largest high-alarm limit of the used zones (R28). -/
theorem unresolvedTemp_used {s : State} {z : ZoneId} (h : zoneUsed s z = true) :
    (∃ y, zoneUsed s y = true ∧ unresolvedTemp s = cut (highAlarm s y)) ∧
    ∀ y, zoneUsed s y = true → cut (highAlarm s y) ≤ unresolvedTemp s := by
  have hmem : ∀ y, zoneUsed s y = true → highAlarm s y ∈ (allZones.filter (zoneUsed s)).map (highAlarm s) := fun y hy =>
    List.mem_map_of_mem (List.mem_filter.2 ⟨List.mem_finRange y, hy⟩)
  obtain ⟨m, hm, hin, hmax⟩ := maxOf_spec (List.ne_nil_of_mem (hmem z h))
  have htemp : unresolvedTemp s = cut m := by simp [unresolvedTemp, hm, clampTemp_eq_cut]
  obtain ⟨y, hy, rfl⟩ := List.mem_map.1 hin
  rw [htemp]
  exact ⟨⟨y, (List.mem_filter.1 hy).2, rfl⟩, fun y hy => cut_mono (hmax _ (hmem y hy))⟩

/-! ## A route zone's contribution (R27) -/

theorem doorInDoubt_iff (s : State) (d : DoorId) : doorInDoubt s d = true ↔ doorState s d = .breach ∨ doorState s d = .lost := by
  simp [doorInDoubt]

/-- The zone has a door at an end of the transit, and that door is in BREACH or LOST. -/
theorem zoneInDoubt_iff (s : State) (origin : Place) (dest : Dest) (z : ZoneId) : zoneInDoubt s origin dest z = true ↔
    ∃ d, (origin = .trailer d ∨ dest = .door d) ∧ doorZone s d = z ∧ (doorState s d = .breach ∨ doorState s d = .lost) := by
  cases origin <;> cases dest <;> simp [zoneInDoubt, doorInDoubt_iff, or_and_right, exists_or]

/-- A door in doubt comes first, then an UNUSED zone, then the zone's own accrual temperature. -/
theorem contribution_inDoubt {s : State} {origin : Place} {dest : Dest} {z : ZoneId} (h : zoneInDoubt s origin dest z = true) :
    contribution s origin dest z = (substitute s z, true) := by
  simp [contribution, h]

theorem contribution_unused {s : State} {origin : Place} {dest : Dest} {z : ZoneId} (h : ¬ zoneInDoubt s origin dest z = true)
    (hu : zoneUsed s z = false) : contribution s origin dest z = (unresolvedTemp s, true) := by
  simp [contribution, h, hu]

theorem contribution_used {s : State} {origin : Place} {dest : Dest} {z : ZoneId} (h : ¬ zoneInDoubt s origin dest z = true)
    (hu : zoneUsed s z = true) : contribution s origin dest z = (accrualTemp s z, substitutionFlag s z) := by
  simp [contribution, h, hu]

/-- A route that has a zone is charged at its largest contribution, and marks where any of its zones does. -/
theorem routeCharge_spec (s : State) (origin : Place) (dest : Dest) {route : List ZoneId} (h : route ≠ []) :
    (∃ z ∈ route, (contribution s origin dest z).1 = (routeCharge s origin dest route).1) ∧
    (∀ z ∈ route, (contribution s origin dest z).1 ≤ (routeCharge s origin dest route).1) ∧
    ((routeCharge s origin dest route).2 = true ↔ ∃ z ∈ route, (contribution s origin dest z).2 = true) := by
  obtain ⟨m, hm, hin, hmax⟩ := maxOf_spec (xs := route.map fun z => (contribution s origin dest z).1) (by simpa using h)
  have htemp : (routeCharge s origin dest route).1 = m := by simp [routeCharge, hm]
  rw [htemp]
  exact ⟨List.mem_map.1 hin, fun z hz => hmax _ (List.mem_map_of_mem hz), by simp [routeCharge]⟩

/-! ## The charge of one record (R24, R30 to R34) -/

theorem chargedPallet_none {s : State} {p : Pallet} (h : chargeAt s p.location = none) (secs : Nat) :
    chargedPallet s secs p = { p with dwell := p.dwellAfter s secs, charged := true } := by
  simp [chargedPallet, h]

theorem chargedPallet_some {s : State} {p : Pallet} {temp : Int} {mark : Bool} (h : chargeAt s p.location = some (temp, mark))
    (secs : Nat) : chargedPallet s secs p =
      { p with dwell := p.dwellAfter s secs, charged := true }.charge (classEntry s p.cls) temp secs mark := by
  simp [chargedPallet, h]

/-- A charge writes account, residue, mark, peak, status and dwell, and no other field but the expiry's own mark. -/
theorem chargedPallet_keeps (s : State) (secs : Nat) (p : Pallet) : chargedPallet s secs p =
    { p with account := (chargedPallet s secs p).account, residue := (chargedPallet s secs p).residue,
             estimated := (chargedPallet s secs p).estimated, peak := (chargedPallet s secs p).peak,
             status := (chargedPallet s secs p).status, dwell := p.dwellAfter s secs, charged := true } := by
  cases h : chargeAt s p.location with
  | none => rw [chargedPallet_none h]
  | some c => rw [chargedPallet_some h]; rfl

theorem dwellAfter_grows {s : State} {p : Pallet} (h : DwellGrows s p.location) (secs : Nat) :
    p.dwellAfter s secs = min 65535 (p.dwell + secs) := by
  rw [Pallet.dwellAfter, if_pos ((onDockSide_iff s p.location).2 h)]
  rfl

theorem dwellAfter_stays {s : State} {p : Pallet} (h : ¬ DwellGrows s p.location) (secs : Nat) : p.dwellAfter s secs = p.dwell := by
  rw [Pallet.dwellAfter, if_neg fun hd => h ((onDockSide_iff s p.location).1 hd)]

/-- A trailer's pallets take the zone's air through an open door, the substitute at a door in doubt, and else no charge (R26). -/
theorem chargeAt_trailer_open {s : State} {d : DoorId} (h : doorState s d = .opened ∨ doorState s d = .closing) :
    chargeAt s (.at (.trailer d)) = some (accrualTemp s (doorZone s d), substitutionFlag s (doorZone s d)) := by
  rcases h with h | h <;> simp [chargeAt, h, DoorState.countsOpen]

theorem chargeAt_trailer_inDoubt {s : State} {d : DoorId} (h : doorState s d = .breach ∨ doorState s d = .lost) :
    chargeAt s (.at (.trailer d)) = some (substitute s (doorZone s d), true) := by
  rcases h with h | h <;> simp [chargeAt, h, DoorState.countsOpen, doorInDoubt]

theorem chargeAt_trailer_shut {s : State} {d : DoorId} (ho : (doorState s d).countsOpen = false) (hd : doorInDoubt s d = false) :
    chargeAt s (.at (.trailer d)) = none := by
  simp [chargeAt, ho, hd]

/-- The account saturates with no residue, and below saturation the residue is what is left of a whole unit (R30, R31). -/
theorem chargedAccount_spec (c : ClassEntry) (temp : Int) (secs account residue : Nat) :
    let r := chargedAccount c temp secs account residue
    let sum := residue + (temp - c.threshold).toNat * secs
    r.1 = min 65535 (account + sum / 60) ∧ (r.1 < 65535 → r.2 = sum - 60 * (sum / 60)) ∧ (r.1 = 65535 → r.2 = 0) :=
  ⟨rfl, fun h => if_neg (Nat.ne_of_lt h), fun h => if_pos h⟩

/-- Settles O28: each temperature by its table; the charge at the temperature and mark of the record's location; the dwell by R33. -/
theorem chargeOfOneRecord : Obligations.ChargeOfOneRecord := by
  unfold Obligations.ChargeOfOneRecord
  intro s p secs high used
  have hused : ∀ z, used z ↔ zoneUsed s z = true := fun z => (zoneUsed_iff s z).symm
  have hunused : ∀ z, ¬ used z ↔ zoneUsed s z = false := fun z => by rw [hused, Bool.not_eq_true]
  refine ⟨fun z _ => ⟨fun hf v hv => ⟨accrualTemp_ok hf hv, ?notSubstituted⟩,
      fun hf v hv => ⟨accrualTemp_fault hf hv, (substitutionFlag_iff s z).2 (Or.inl hf)⟩,
      fun hv => ⟨accrualTemp_none hv, (substitutionFlag_iff s z).2 (Or.inr hv)⟩, clampTemp_eq_cut _⟩,
    fun h => unresolvedTemp_unused fun z => (hunused z).1 (h z), ?someUsed, ?contribution, ?charge⟩
  case notSubstituted =>
    rw [← Bool.not_eq_true, substitutionFlag_iff, hv]
    simp [hf]
  case someUsed =>
    rintro ⟨z, hz⟩
    obtain ⟨⟨y, hy, htemp⟩, hmax⟩ := unresolvedTemp_used ((hused z).1 hz)
    exact ⟨⟨y, (hused y).2 hy, htemp⟩, fun y hy => hmax y ((hused y).1 hy)⟩
  case contribution =>
    intro origin dest z
    dsimp only
    rw [← zoneInDoubt_iff, hunused, hused]
    exact ⟨contribution_inDoubt, contribution_unused, contribution_used⟩
  case charge =>
    intro c q charged uncharged
    have hcharged : ∀ {temp mark}, chargeAt s p.location = some (temp, mark) → charged temp mark := by
      intro temp mark h
      have hq : q = _ := chargedPallet_some h secs
      obtain ⟨haccount, hresidue, hfull⟩ := chargedAccount_spec c temp secs p.account p.residue
      dsimp only [charged]
      rw [hq]
      exact ⟨haccount, hresidue, hfull, rfl, by cases p.peak <;> rfl, rfl⟩
    have huncharged : chargeAt s p.location = none → uncharged := by
      intro h
      have hq : q = _ := chargedPallet_none h secs
      dsimp only [uncharged]
      rw [hq]
      exact ⟨rfl, rfl, rfl, rfl, rfl⟩
    have hkeeps : q = _ := chargedPallet_keeps s secs p
    have hdwell : q.dwell = p.dwellAfter s secs := by rw [hkeeps]
    refine ⟨fun l hl => hcharged (by rw [hl]; rfl), fun z hz => hcharged (by rw [hz]; rfl), fun d hd => ?trailer,
      fun t ht hr => ?route, fun hu => hcharged (by rw [hu]; rfl), fun h => hdwell.trans (dwellAfter_grows h secs),
      fun h => hdwell.trans (dwellAfter_stays h secs), ?keeps⟩
    case trailer =>
      rw [hd] at hcharged huncharged
      cases h : doorState s d
      case opened => exact hcharged (chargeAt_trailer_open (Or.inl h))
      case closing => exact hcharged (chargeAt_trailer_open (Or.inr h))
      case breach => exact hcharged (chargeAt_trailer_inDoubt (Or.inl h))
      case lost => exact hcharged (chargeAt_trailer_inDoubt (Or.inr h))
      all_goals exact huncharged (chargeAt_trailer_shut (by rw [h]; rfl) (by simp [doorInDoubt, h]))
    case route =>
      exact ⟨_, _, hcharged (by rw [ht]; rfl), routeCharge_spec s t.origin t.dest hr⟩
    case keeps =>
      rw [hkeeps]
      exact ⟨rfl, rfl, rfl, rfl, rfl, rfl, rfl⟩

end Sys2Proof.Machine
end

section
/-! SUPPORT. Records found by tag, and the queue service and the grant judgment where no door that waits may be opened: no door moves, and
a grant only adds to what holds doors shut (03_the_pallet_table.md R44, 07_defrost_coordination.md R140, R141). -/

namespace Sys2Proof.Machine

/-! ## Records by tag (R44) -/

/-- Two records of a list without a repeated tag are one where their tags agree. -/
theorem eq_of_tag_nodup {ps : List Pallet} (hn : (ps.map Pallet.tag).Nodup) {p q : Pallet} (hp : p ∈ ps) (hq : q ∈ ps)
    (h : q.tag = p.tag) : q = p := by
  induction ps with
  | nil => cases hp
  | cons r rs ih =>
    rw [List.map_cons, List.nodup_cons] at hn
    obtain ⟨hr, hrs⟩ := hn
    rcases List.mem_cons.1 hp with rfl | hprs
    · rcases List.mem_cons.1 hq with rfl | hqrs
      · rfl
      · exact absurd (List.mem_map.2 ⟨q, hqrs, h⟩) hr
    · rcases List.mem_cons.1 hq with rfl | hqrs
      · exact absurd (List.mem_map.2 ⟨p, hprs, h.symm⟩) hr
      · exact ih hrs hprs hqrs

theorem pallet_eq_of_tag {s : State} (hn : (s.pallets.map Pallet.tag).Nodup) {p q : Pallet} (hp : p ∈ s.pallets) (hq : q ∈ s.pallets)
    (h : q.tag = p.tag) : q = p := eq_of_tag_nodup hn hp hq h

theorem findPallet_some {s : State} {tag : Nat} {p : Pallet} (h : findPallet s tag = some p) : p ∈ s.pallets ∧ p.tag = tag :=
  ⟨List.mem_of_find?_eq_some h, by simpa using List.find?_some h⟩

theorem findPallet_none {s : State} {tag : Nat} (h : findPallet s tag = none) {q : Pallet} (hq : q ∈ s.pallets) : q.tag ≠ tag := by
  have := List.find?_eq_none.1 h q hq
  simpa using this

theorem findPallet_of_mem {s : State} (hn : (s.pallets.map Pallet.tag).Nodup) {p : Pallet} (hp : p ∈ s.pallets) :
    findPallet s p.tag = some p := by
  cases h : findPallet s p.tag with
  | none => exact absurd rfl (findPallet_none h hp)
  | some q =>
    obtain ⟨hq, htag⟩ := findPallet_some h
    rw [pallet_eq_of_tag hn hp hq htag]

/-- A change of records that keeps their tags is found under the same tags. -/
theorem findPallet_map {s t : State} {f : Pallet → Pallet} (hf : ∀ q, (f q).tag = q.tag) (h : t.pallets = s.pallets.map f) (tag : Nat) :
    findPallet t tag = (findPallet s tag).map f := by
  unfold findPallet
  rw [h, List.find?_map]
  simp only [Function.comp_def, hf]

theorem map_tag_map {f : Pallet → Pallet} (hf : ∀ q, (f q).tag = q.tag) (ps : List Pallet) :
    (ps.map f).map Pallet.tag = ps.map Pallet.tag := by
  simp [hf]

/-! ## Where no door that waits may be opened (R113) -/

/-- No door that waits may be opened: the queue service has nothing to do (R113). -/
def DoorsHeld (s : State) : Prop := ∀ z, s.waits.get z ≠ [] → allowsOpen s z = false

/-- Doors stay held while zones, doors, wait queues and profile stay and units hold no fewer opens. -/
theorem DoorsHeld.mono {s t : State} (h : DoorsHeld s) (hw : t.waits = s.waits) (hz : t.zones = s.zones) (hd : t.doors = s.doors)
    (hp : t.profile = s.profile) (hu : ∀ z, (s.units.get z).holdsOpens = true → (t.units.get z).holdsOpens = true) : DoorsHeld t := by
  intro z hz'
  have hs : allowsOpen s z = false := h z (by rwa [← hw])
  have hopen : openCount t z = openCount s z := by simp [openCount, doorZone, doorEntry, doorState, hd, hp]
  have hlimit : limitInForce t z = limitInForce s z := by unfold limitInForce highActive zoneEntry; rw [hz, hp]
  unfold allowsOpen at hs ⊢
  rw [hopen, hlimit]
  rw [Bool.and_eq_false_iff] at hs ⊢
  refine hs.imp_left fun hh => ?_
  rw [Bool.not_eq_false'] at hh ⊢
  exact hu z hh

/-! ## A grant at the units (R141) -/

theorem endDeferred_units_other {z y : ZoneId} (h : y ≠ z) (s : State) : (endDeferred z s).units.get y = s.units.get y := by
  unfold endDeferred
  split
  · simp [bank_get_put_other _ _ _ _ h.symm]
  · rfl

theorem grantDefrost_units_other {z y : ZoneId} (h : y ≠ z) (s : State) : (grantDefrost z s).units.get y = s.units.get y := by
  simp [grantDefrost, leaveRequested, bank_get_put_other _ _ _ _ h.symm, endDeferred_units_other h]

theorem grantDefrost_unit (z : ZoneId) (s : State) : ((grantDefrost z s).units.get z).state = .pumpdown := by
  simp [grantDefrost]

/-- A grant opens no door: the zone's own unit goes to PUMPDOWN, which holds its doors shut, and no other unit moves. -/
theorem doorsHeld_grantDefrost (z : ZoneId) {s : State} (h : DoorsHeld s) : DoorsHeld (grantDefrost z s) := by
  refine h.mono (by simp) (by simp) (by simp) (by simp) fun y hy => ?_
  by_cases hyz : y = z
  · subst hyz
    simp [DefrostUnit.holdsOpens, grantDefrost_unit, UnitState.holdsSlot]
  · rwa [grantDefrost_units_other hyz]

theorem doorsHeld_grantLoop (n : Nat) {s : State} (h : DoorsHeld s) : DoorsHeld (grantLoop n s) := by
  induction n generalizing s with
  | zero => exact h
  | succ n ih =>
    unfold grantLoop
    split
    · exact h
    · exact ih (doorsHeld_grantDefrost _ h)

theorem settle_held {s : State} (h : DoorsHeld s) : settle s = grantJudgment s := by
  unfold settle
  rw [serviceAll_idle h]

theorem doorsHeld_settle {s : State} (h : DoorsHeld s) : DoorsHeld (settle s) := by
  rw [settle_held h]
  exact doorsHeld_grantLoop _ h

/-! ## A standing condition -/

/-- No raise takes away what stands (R169). -/
theorem Stands.raised {k : AlarmKind} {sub : Subject} {s : State} (h : Stands k sub s) (hk : k.isEvent = false) (k' : AlarmKind)
    (sub' : Subject) : Stands k sub (raise k' sub' s) := by
  by_cases he : k = k' ∧ sub = sub'
  · obtain ⟨rfl, rfl⟩ := he
    exact stands_raise hk sub s
  · unfold Stands at *
    rw [raise_find, raised_find_other _ _ he, raise_overflow]
    exact h.imp_right (raised_overflow _ _ _ _)

/-- A clear of another subject takes nothing away (R171). -/
theorem Stands.cleared_other {k : AlarmKind} {sub : Subject} {s : State} (h : Stands k sub s) (k' : AlarmKind) {sub' : Subject}
    (hs : sub ≠ sub') : Stands k sub (clear k' sub' s) := by
  unfold Stands at *
  rwa [clear_find, clearedFor_find_other _ _ fun e => hs e.2, clear_overflow]

end Sys2Proof.Machine
end

section
/-! PROOFS. The period expiry: every record is charged once (02_exposure_accounting.md R23, R24, R34 to R36). -/

namespace Sys2Proof.Machine

/-! ## Telling of a record's change (R34 to R36) -/

/-- What is told of a record that changed from `p` to `q`: PALLET OVER and DWELL EXCEEDED where they begin, and a change of status. -/
structure ToldOfPallet (c : ClassEntry) (p q : Pallet) (t : State) : Prop where
  overTold : p.status ≠ .over → q.status = .over → Stands .palletOver (.tag p.tag) t
  dwellTold : p.dwell ≤ 60 * c.maxDwell → 60 * c.maxDwell < q.dwell → Stands .dwellExceeded (.tag p.tag) t
  statusTold : q.status ≠ p.status → Posted .palletStatus t

/-- What was told stays told where no condition of the record is taken away and notices only add. -/
theorem ToldOfPallet.keep {c : ClassEntry} {p q : Pallet} {ks : List NoticeKind} {s t : State} (h : ToldOfPallet c p q s)
    (hs : ∀ k, k = .palletOver ∨ k = .dwellExceeded → Stands k (.tag p.tag) s → Stands k (.tag p.tag) t)
    (ht : Told ks s t) : ToldOfPallet c p q t :=
  ⟨fun ho hn => hs _ (Or.inl rfl) (h.overTold ho hn), fun ho hn => hs _ (Or.inr rfl) (h.dwellTold ho hn),
    fun hn => (h.statusTold hn).told ht⟩

/-- An operation that touches the alarms of no pallet. -/
theorem ToldOfPallet.alarmed {c : ClassEntry} {p q : Pallet} {js : List AlarmKind} {ks : List NoticeKind} {s t : State}
    (h : ToldOfPallet c p q s) (ha : Alarmed js s t) (hj : .palletOver ∉ js ∧ .dwellExceeded ∉ js) (ht : Told ks s t) :
    ToldOfPallet c p q t := by
  refine h.keep (fun k hk hstands => hstands.alarmed ha ?_) ht
  rcases hk with rfl | rfl
  · exact hj.1
  · exact hj.2

theorem told_tellOver (tag : Nat) (old new : Status) (s : State) : Told [.alarmChange] s (tellOver tag old new s) := by
  unfold tellOver
  split
  · exact told_raise _ _ _
  · split
    · exact told_clear _ _ _
    · exact Told.rfl

theorem told_tellDwell (tag : Nat) (old new : Bool) (s : State) : Told [.alarmChange] s (tellDwell tag old new s) := by
  unfold tellDwell
  split
  · exact told_raise _ _ _
  · split
    · exact told_clear _ _ _
    · exact Told.rfl

theorem onlyReports_tellOver (tag : Nat) (old new : Status) (s : State) : OnlyReports s (tellOver tag old new s) := by
  unfold tellOver OnlyReports
  split
  · apply state_eq <;> simp
  · split
    · apply state_eq <;> simp
    · rfl

theorem onlyReports_tellDwell (tag : Nat) (old new : Bool) (s : State) : OnlyReports s (tellDwell tag old new s) := by
  unfold tellDwell OnlyReports
  split
  · apply state_eq <;> simp
  · split
    · apply state_eq <;> simp
    · rfl

theorem alarmed_tellDwell (tag : Nat) (old new : Bool) (s : State) : Alarmed [.dwellExceeded] s (tellDwell tag old new s) := by
  unfold tellDwell
  split
  · exact alarmed_raise _ _ _
  · split
    · exact alarmed_clear _ _ _
    · exact Alarmed.rfl

/-- What is told of one record takes no other's condition away. -/
theorem Stands.tellOver {k : AlarmKind} {n tag : Nat} {s : State} (h : Stands k (.tag n) s) (hk : k.isEvent = false) (hn : n ≠ tag)
    (old new : Status) : Stands k (.tag n) (tellOver tag old new s) := by
  unfold Machine.tellOver
  split
  · exact h.raised hk _ _
  · split
    · exact h.cleared_other _ (by simpa using hn)
    · exact h

theorem Stands.tellDwell {k : AlarmKind} {n tag : Nat} {s : State} (h : Stands k (.tag n) s) (hk : k.isEvent = false) (hn : n ≠ tag)
    (old new : Bool) : Stands k (.tag n) (tellDwell tag old new s) := by
  unfold Machine.tellDwell
  split
  · exact h.raised hk _ _
  · split
    · exact h.cleared_other _ (by simpa using hn)
    · exact h

/-- PALLET OVER stands from the entry to OVER (R35). -/
theorem tellOver_stands {tag : Nat} {old new : Status} (ho : old ≠ .over) (hn : new = .over) (s : State) :
    Stands .palletOver (.tag tag) (tellOver tag old new s) := by
  unfold tellOver
  rw [if_pos ⟨ho, hn⟩]
  exact stands_raise rfl _ _

/-- DWELL EXCEEDED stands from where the dwell passes the limit (R36). -/
theorem tellDwell_stands (tag : Nat) (s : State) : Stands .dwellExceeded (.tag tag) (tellDwell tag false true s) :=
  stands_raise rfl _ _

theorem dwellExceeds_iff (c : ClassEntry) (n : Nat) : dwellExceeds c n = true ↔ 60 * c.maxDwell < n := by simp [dwellExceeds]

/-- The record is put in place, and only the reports move with it. -/
theorem tellPallet_frame (old new : Pallet) (s : State) : tellPallet old new s =
    { s with pallets := (setPallet new s).pallets, alarms := (tellPallet old new s).alarms, ports := (tellPallet old new s).ports } := by
  unfold tellPallet
  dsimp only
  rw [onlyReports_tellDwell, onlyReports_tellOver]
  apply state_eq <;> simp [setPallet]

theorem told_tellPallet (old new : Pallet) (s : State) : Told [.alarmChange, .palletStatus] s (tellPallet old new s) :=
  (Told.of_ports (t := setPallet new s) rfl).trans (((told_postIf _ _ _).wider (by simp)).trans
    (((told_tellOver _ _ _ _).wider (by simp)).trans ((told_tellDwell _ _ _ _).wider (by simp))))

theorem toldOfPallet_tellPallet (p q : Pallet) (s : State) : ToldOfPallet (classEntry s p.cls) p q (tellPallet p q s) := by
  unfold tellPallet
  refine ⟨fun ho hn => (tellOver_stands ho hn _).alarmed (alarmed_tellDwell _ _ _ _) (by decide), fun ho hn => ?dwell, fun hn => ?status⟩
  case dwell =>
    have hold : dwellExceeds (classEntry s p.cls) p.dwell = false := by
      rw [← Bool.not_eq_true, dwellExceeds_iff]; omega
    have hnew : dwellExceeds (classEntry s p.cls) q.dwell = true := (dwellExceeds_iff _ _).2 hn
    dsimp only
    rw [hold, hnew]
    exact tellDwell_stands _ _
  case status =>
    have hposted : Posted .palletStatus (postIf (p.status != q.status) .palletStatus (setPallet q s)) := by
      rw [show (p.status != q.status) = true by simpa using hn.symm]
      exact posted_post _ _
    exact (hposted.told (told_tellOver _ _ _ _)).told (told_tellDwell _ _ _ _)

theorem Stands.tellPallet {k : AlarmKind} {n : Nat} {s : State} (h : Stands k (.tag n) s) (hk : k.isEvent = false) {old : Pallet}
    (hn : n ≠ old.tag) (new : Pallet) : Stands k (.tag n) (tellPallet old new s) := by
  have hput : Stands k (.tag n) (postIf (old.status != new.status) .palletStatus (setPallet new s)) :=
    h.alarmed (ks := []) (Alarmed.of_alarms (postIf_alarms _ _ _)) (by simp)
  exact (hput.tellOver hk hn _ _).tellDwell hk hn _ _

/-! ## One record's charge (R24) -/

/-- A record after the charge it is due: one that has had its charge of this expiry takes no other. -/
def dueCharge (s : State) (secs : Nat) (p : Pallet) : Pallet := if p.charged then p else chargedPallet s secs p

theorem chargedPallet_charged (s : State) (secs : Nat) (p : Pallet) : (chargedPallet s secs p).charged = true := by
  rw [chargedPallet_keeps]

theorem chargedPallet_tag (s : State) (secs : Nat) (p : Pallet) : (chargedPallet s secs p).tag = p.tag := by
  rw [chargedPallet_keeps]

theorem dueCharge_tag (s : State) (secs : Nat) (p : Pallet) : (dueCharge s secs p).tag = p.tag := by
  unfold dueCharge; split
  · rfl
  · exact chargedPallet_tag s secs p

theorem dueCharge_charged (s : State) (secs : Nat) (p : Pallet) : (dueCharge s secs p).charged = true := by
  unfold dueCharge; split
  · assumption
  · exact chargedPallet_charged s secs p

/-- A second charge of the same expiry does nothing. -/
theorem dueCharge_again (s : State) (secs : Nat) (p : Pallet) : dueCharge s secs (dueCharge s secs p) = dueCharge s secs p :=
  if_pos (dueCharge_charged s secs p)

/-- The charge falls to the records of one tag. -/
def dueChargeAt (s : State) (secs tag : Nat) (q : Pallet) : Pallet := if q.tag = tag then dueCharge s secs q else q

theorem dueChargeAt_tag (s : State) (secs tag : Nat) (q : Pallet) : (dueChargeAt s secs tag q).tag = q.tag := by
  unfold dueChargeAt; split
  · exact dueCharge_tag s secs q
  · rfl

theorem chargeOne_uncharged {s : State} {secs tag : Nat} {p : Pallet} (hf : findPallet s tag = some p) (hc : p.charged = false) :
    chargeOne secs tag s = settle (tellPallet p (chargedPallet s secs p) s) := by
  simp [chargeOne, hf, hc]

theorem chargeOne_charged {s : State} {secs tag : Nat} {p : Pallet} (hf : findPallet s tag = some p) (hc : p.charged = true) :
    chargeOne secs tag s = s := by
  simp [chargeOne, hf, hc]

theorem chargeOne_unknown {s : State} {secs tag : Nat} (hf : findPallet s tag = none) : chargeOne secs tag s = s := by
  simp [chargeOne, hf]

/-- What a charge can do: nothing, or one record not charged yet is put in place and told of, and the queue service and the grant
judgment follow. -/
theorem chargeOne_cases (secs tag : Nat) (s : State) : chargeOne secs tag s = s ∨
    ∃ p, findPallet s tag = some p ∧ p.charged = false ∧
      chargeOne secs tag s = settle (tellPallet p (chargedPallet s secs p) s) := by
  cases hf : findPallet s tag with
  | none => exact Or.inl (chargeOne_unknown hf)
  | some p =>
    cases hc : p.charged with
    | true => exact Or.inl (chargeOne_charged hf hc)
    | false => exact Or.inr ⟨p, rfl, hc, chargeOne_uncharged hf hc⟩

theorem chargeOne_pallets {s : State} (hn : (s.pallets.map Pallet.tag).Nodup) (secs tag : Nat) :
    (chargeOne secs tag s).pallets = s.pallets.map (dueChargeAt s secs tag) := by
  have same : (∀ q ∈ s.pallets, dueChargeAt s secs tag q = q) → s.pallets.map (dueChargeAt s secs tag) = s.pallets := fun h =>
    (List.map_congr_left h).trans (List.map_id' _)
  cases hf : findPallet s tag with
  | none =>
    rw [chargeOne_unknown hf, same fun q hq => if_neg (findPallet_none hf hq)]
  | some p =>
    obtain ⟨hp, rfl⟩ := findPallet_some hf
    cases hc : p.charged with
    | true =>
      rw [chargeOne_charged hf hc, same]
      intro q hq
      unfold dueChargeAt
      split
      · next htag => rw [pallet_eq_of_tag hn hp hq htag]; exact if_pos hc
      · rfl
    | false =>
      rw [chargeOne_uncharged hf hc, settle_pallets, tellPallet_frame]
      refine List.map_congr_left fun q hq => ?_
      simp only [beq_iff_eq, chargedPallet_tag, dueChargeAt]
      split
      · next htag => rw [pallet_eq_of_tag hn hp hq htag]; simp [dueCharge, hc]
      · rfl

/-- The notices of a charge. -/
abbrev chargeNotices : List NoticeKind := [.palletStatus, .alarmChange, .doorChange, .openGranted, .defrostGranted]

theorem told_chargeOne (secs tag : Nat) (s : State) : Told chargeNotices s (chargeOne secs tag s) := by
  rcases chargeOne_cases secs tag s with h | ⟨p, -, -, h⟩ <;> rw [h]
  · exact Told.rfl
  · exact ((told_tellPallet _ _ _).wider (by simp)).trans ((told_settle _).wider (by simp))

/-- What a charge may change where no door that waits may be opened: the table, the units with their queue, and the reports. -/
def OnlyCharges (s t : State) : Prop :=
  t = { s with pallets := t.pallets, units := t.units, defrostQueue := t.defrostQueue, alarms := t.alarms, ports := t.ports }

theorem OnlyCharges.rfl {s : State} : OnlyCharges s s := Eq.refl _

theorem OnlyCharges.trans {s t u : State} (a : OnlyCharges s t) (b : OnlyCharges t u) : OnlyCharges s u := by
  cases s; cases t; cases u; simp_all [OnlyCharges]

/-- The charge of a record reads nothing that charges change. -/
theorem OnlyCharges.chargedPallet {s t : State} (h : OnlyCharges s t) : chargedPallet t = chargedPallet s := by
  rw [h]; rfl

theorem OnlyCharges.dueCharge {s t : State} (h : OnlyCharges s t) : dueCharge t = dueCharge s := by
  rw [h]; rfl

theorem OnlyCharges.classEntry {s t : State} (h : OnlyCharges s t) : classEntry t = classEntry s := by
  rw [h]; rfl

theorem doorsHeld_tellPallet {s : State} (h : DoorsHeld s) (p q : Pallet) : DoorsHeld (tellPallet p q s) := by
  rw [tellPallet_frame]; exact h

/-- The grants follow a charge, and no door is served. -/
theorem onlyCharges_chargeOne {s : State} (h : DoorsHeld s) (secs tag : Nat) :
    OnlyCharges s (chargeOne secs tag s) ∧ DoorsHeld (chargeOne secs tag s) := by
  rcases chargeOne_cases secs tag s with he | ⟨p, -, -, he⟩ <;> rw [he]
  · exact ⟨OnlyCharges.rfl, h⟩
  · have hheld := doorsHeld_tellPallet h p (chargedPallet s secs p)
    refine ⟨OnlyCharges.trans (t := tellPallet p (chargedPallet s secs p) s) ?_ ?_, doorsHeld_settle hheld⟩
    · unfold OnlyCharges; rw [tellPallet_frame]
    · unfold OnlyCharges; rw [settle_held hheld]; apply state_eq <;> simp

theorem ToldOfPallet.chargeOne {c : ClassEntry} {p q : Pallet} {s : State} (h : ToldOfPallet c p q s) {tag : Nat} (hn : p.tag ≠ tag)
    (secs : Nat) : ToldOfPallet c p q (chargeOne secs tag s) := by
  rcases chargeOne_cases secs tag s with he | ⟨r, hf, -, he⟩ <;> rw [he]
  · exact h
  · obtain ⟨-, rfl⟩ := findPallet_some hf
    have hput := h.keep (fun k hk hstands => hstands.tellPallet (by rcases hk with rfl | rfl <;> rfl) hn (chargedPallet s secs r))
      (told_tellPallet r _ s)
    exact hput.alarmed (alarmed_settle _) (by decide) (told_settle _)

/-- A record not charged yet is told of at its charge. -/
theorem toldOfPallet_chargeOne {s : State} (hn : (s.pallets.map Pallet.tag).Nodup) {p : Pallet} (hp : p ∈ s.pallets)
    (hc : p.charged = false) (secs : Nat) :
    ToldOfPallet (classEntry s p.cls) p (chargedPallet s secs p) (chargeOne secs p.tag s) := by
  rw [chargeOne_uncharged (findPallet_of_mem hn hp) hc]
  exact (toldOfPallet_tellPallet p _ s).alarmed (alarmed_settle _) (by decide) (told_settle _)

/-! ## The charges of an expiry (R23, R24) -/

/-- The charges by tag, one after the other. -/
abbrev chargeAll (secs : Nat) (tags : List Nat) (s : State) : State := forEach tags (chargeOne secs) s

theorem chargeAll_cons (secs tag : Nat) (tags : List Nat) (s : State) :
    chargeAll secs (tag :: tags) s = chargeAll secs tags (chargeOne secs tag s) := rfl

theorem chargeOne_nodup {s : State} (hn : (s.pallets.map Pallet.tag).Nodup) (secs tag : Nat) :
    ((chargeOne secs tag s).pallets.map Pallet.tag).Nodup := by
  rwa [chargeOne_pallets hn, map_tag_map (dueChargeAt_tag s secs tag)]

/-- The charges come to one charge of each record that is due and named: a charge moves nothing a later one reads. -/
theorem chargeAll_effect (secs : Nat) (tags : List Nat) {s : State} (hd : DoorsHeld s) (hn : (s.pallets.map Pallet.tag).Nodup) :
    OnlyCharges s (chargeAll secs tags s) ∧
    (chargeAll secs tags s).pallets = s.pallets.map fun q => if q.tag ∈ tags then dueCharge s secs q else q := by
  induction tags generalizing s with
  | nil => exact ⟨OnlyCharges.rfl, by simp [chargeAll, forEach]⟩
  | cons tag tags ih =>
    obtain ⟨honly, hheld⟩ := onlyCharges_chargeOne hd secs tag
    obtain ⟨hrest, hpallets⟩ := ih hheld (chargeOne_nodup hn secs tag)
    rw [chargeAll_cons]
    refine ⟨honly.trans hrest, ?_⟩
    rw [hpallets, chargeOne_pallets hn, List.map_map, honly.dueCharge]
    refine List.map_congr_left fun q _ => ?_
    simp only [Function.comp_apply, dueChargeAt_tag, List.mem_cons]
    by_cases htag : q.tag = tag
    · rw [dueChargeAt, if_pos htag, if_pos (Or.inl htag), dueCharge_again, ite_self]
    · rw [dueChargeAt, if_neg htag]
      simp [htag]

theorem ToldOfPallet.chargeAll {c : ClassEntry} {p q : Pallet} {s : State} (h : ToldOfPallet c p q s) {tags : List Nat}
    (hn : p.tag ∉ tags) (secs : Nat) : ToldOfPallet c p q (chargeAll secs tags s) := by
  induction tags generalizing s with
  | nil => exact h
  | cons tag tags ih =>
    obtain ⟨hne, hrest⟩ := List.ne_and_not_mem_of_not_mem_cons hn
    exact ih (h.chargeOne hne secs) hrest

/-- Each record that is due and named is told of: the charges before its own leave it and its charge as they were, and those after it take
nothing away. -/
theorem toldOfPallet_chargeAll (secs : Nat) {tags : List Nat} (ht : tags.Nodup) {s : State} (hd : DoorsHeld s)
    (hn : (s.pallets.map Pallet.tag).Nodup) {p : Pallet} (hp : p ∈ s.pallets) (hc : p.charged = false) (hin : p.tag ∈ tags) :
    ToldOfPallet (classEntry s p.cls) p (chargedPallet s secs p) (chargeAll secs tags s) := by
  induction tags generalizing s with
  | nil => cases hin
  | cons tag tags ih =>
    obtain ⟨hnotin, ht⟩ := List.nodup_cons.1 ht
    rw [chargeAll_cons]
    by_cases htag : p.tag = tag
    · subst htag
      exact (toldOfPallet_chargeOne hn hp hc secs).chargeAll hnotin secs
    · obtain ⟨honly, hheld⟩ := onlyCharges_chargeOne hd secs tag
      have hp' : p ∈ (chargeOne secs tag s).pallets := by
        rw [chargeOne_pallets hn]
        exact List.mem_map.2 ⟨p, hp, if_neg htag⟩
      have htold := ih ht hheld (chargeOne_nodup hn secs tag) hp' ((List.mem_cons.1 hin).resolve_left htag)
      rwa [honly.classEntry, honly.chargedPallet] at htold

theorem told_chargeAll (secs : Nat) (tags : List Nat) (s : State) : Told chargeNotices s (chargeAll secs tags s) :=
  told_forEach _ _ (fun tag t => told_chargeOne secs tag t) s

/-! ## The rows -/

/-- The expiry's state: the charges, the marks taken away, and the next period (R23). -/
theorem exec_accrualPeriodExpiry {s : State} {secs : Nat} (hp : s.power = .running) (he : s.exposure.period = some secs) :
    exec .accrualPeriodExpiry s = .next
      ((unmark (chargeAll secs (s.pallets.map Pallet.tag) s)).setExposure
        ⟨some (chargeAll secs (s.pallets.map Pallet.tag) s).profile.global.accrualPeriod, 0,
          (chargeAll secs (s.pallets.map Pallet.tag) s).clock⟩) := by
  refine (whenRunning_on hp).trans ?_
  simp only [periodExpires, he]
  rfl

theorem exec_palletCharge {s : State} {secs : Nat} (hp : s.power = .running) (he : s.exposure.period = some secs) (tag : Nat) :
    exec (.palletCharge tag) s = .next (chargeOne secs tag s) := by
  refine (whenRunning_on hp).trans ?_
  simp only [chargeEarly, he]

/-- The frame of the end of an expiry. -/
theorem OnlyCharges.expired {s u : State} (h : OnlyCharges s u) (x : Exposure) : (unmark u).setExposure x =
    { s with exposure := x, pallets := (unmark u).pallets, units := u.units, defrostQueue := u.defrostQueue, alarms := u.alarms,
             ports := u.ports } := by
  cases s; cases u; simp_all [OnlyCharges, unmark, State.setPallets, State.setExposure]

/-- A record's charge ahead of the others (R24). -/
theorem chargeOne_found {s : State} (hn : (s.pallets.map Pallet.tag).Nodup) {p : Pallet} (hp : p ∈ s.pallets)
    (hc : p.charged = false) (secs : Nat) : findPallet (chargeOne secs p.tag s) p.tag = some (chargedPallet s secs p) ∧
      PalletsKeptBut p.tag s (chargeOne secs p.tag s) := by
  have hfind := findPallet_map (dueChargeAt_tag s secs p.tag) (chargeOne_pallets hn secs p.tag)
  refine ⟨?_, fun tag htag => ?_⟩
  · rw [hfind, findPallet_of_mem hn hp, Option.map_some, dueChargeAt, if_pos rfl, dueCharge, hc]
    rfl
  · rw [hfind]
    cases hf : findPallet s tag with
    | none => rfl
    | some q => rw [Option.map_some, dueChargeAt, if_neg fun e => htag ((findPallet_some hf).2.symm.trans e)]

/-- Settles O29: the charges come to one charge of each record not charged yet, each told of at its own charge; a grant on the way moves no
door and no temperature, so every record is charged as at the expiry's beginning. -/
theorem periodExpiryChargesEveryRecord : Obligations.PeriodExpiryChargesEveryRecord := by
  unfold Obligations.PeriodExpiryChargesEveryRecord
  intro s secs hpower hperiod hn hsettled
  have hd : DoorsHeld s := hsettled.1
  refine ⟨?expiry, fun p hp => ⟨fun hc => ?again, fun hc => ?early⟩⟩
  case expiry =>
    obtain ⟨honly, hpallets⟩ := chargeAll_effect secs (s.pallets.map Pallet.tag) hd hn
    have htold := told_chargeAll secs (s.pallets.map Pallet.tag) s
    have hpallet : ∀ p ∈ s.pallets, p.charged = false → ToldOfPallet (classEntry s p.cls) p (chargedPallet s secs p)
        (chargeAll secs (s.pallets.map Pallet.tag) s) := fun p hp hc =>
      toldOfPallet_chargeAll secs hn hd hn hp hc (List.mem_map_of_mem hp)
    rw [exec_accrualPeriodExpiry hpower hperiod]
    generalize chargeAll secs (s.pallets.map Pallet.tag) s = u at *
    have hclock : u.clock = s.clock := by rw [honly]
    have hprofile : u.profile = s.profile := by rw [honly]
    refine ⟨_, rfl, ?pallets, ?exposure, htold.kept, ?status, fun p hp hc => ⟨(hpallet p hp hc).overTold, (hpallet p hp hc).dwellTold⟩,
      honly.expired _⟩
    case pallets =>
      change u.pallets.map _ = _
      rw [hpallets, List.map_map]
      refine List.map_congr_left fun p hp => ?_
      rw [Function.comp_apply, if_pos (List.mem_map_of_mem hp)]
      rfl
    case exposure => rw [setExposure_exposure, hclock, hprofile]
    case status =>
      rintro ⟨p, hp, hc, hne⟩
      exact (hpallet p hp hc).statusTold hne
  case again => rw [exec_palletCharge hpower hperiod, chargeOne_charged (findPallet_of_mem hn hp) hc]
  case early =>
    obtain ⟨hfind, hothers⟩ := chargeOne_found hn hp hc secs
    have htold := toldOfPallet_chargeOne hn hp hc secs
    exact ⟨_, exec_palletCharge hpower hperiod p.tag, hfind, chargedPallet_charged s secs p, hothers, (told_chargeOne secs p.tag s).kept,
      htold.overTold, htold.dwellTold, (onlyCharges_chargeOne hd secs p.tag).1⟩

end Sys2Proof.Machine
end

section
/-! SUPPORT. The start-up work around the catch-up: what the end of the load leaves to it, and what the work after it leaves of the records,
of the limits they are judged by and of what was told (11_profile_clock_and_start_up.md R194, 02_exposure_accounting.md R41 to R43,
03_the_pallet_table.md R60, 04_moves_and_staging_lanes.md R85, R86, 05_dock_doors_and_seals.md R117, 06_the_door_loop.md R132). -/

namespace Sys2Proof.Machine

/-! ## The end of the load (R184, R187, R194) -/

theorem OnlyDocks.rfl {s : State} : OnlyDocks s s := Eq.refl _

theorem OnlyDocks.trans {s t u : State} (a : OnlyDocks s t) (b : OnlyDocks t u) : OnlyDocks s u := by
  cases s; cases t; cases u; simp_all [OnlyDocks]

theorem onlyDocks_raise (k : AlarmKind) (sub : Subject) (s : State) : OnlyDocks s (raise k sub s) := by
  unfold OnlyDocks
  apply state_eq <;> simp

theorem onlyDocks_forEach {α : Type} {f : α → State → State} (h : ∀ x s, OnlyDocks s (f x s)) (xs : List α) (s : State) :
    OnlyDocks s (forEach xs f s) :=
  forEach_inv (OnlyDocks s) f (fun x t ht => ht.trans (h x t)) xs s OnlyDocks.rfl

theorem onlyDocks_silenceUnit (z : ZoneId) (s : State) : OnlyDocks s (silenceUnit z s) := by
  unfold silenceUnit
  cases unitState s z
  case requested => unfold OnlyDocks withdrawRequest; apply state_eq <;> simp
  case pumpdown => rfl
  case heat => rfl
  all_goals exact OnlyDocks.rfl

theorem onlyDocks_plantSilence (s : State) : OnlyDocks s (plantSilence s) :=
  (onlyDocks_forEach onlyDocks_silenceUnit allZones s).trans
    (by unfold plantSilence OnlyDocks; apply state_eq <;> simp)

/-- A port that falls silent, and plant silence with it, move the units and the reports, and what the queue service and the grants move. -/
theorem onlyDocks_judgeSilence (p : Port) (s : State) : OnlyDocks s (judgeSilence p s) := by
  have hsilent : ∀ f, OnlyDocks s (raise .partySilent (.port p) (s.modPort p f)) := fun f =>
    OnlyDocks.trans (t := s.modPort p f) (Eq.refl _) (onlyDocks_raise _ _ _)
  unfold judgeSilence silenceExpires
  split
  · split
    · unfold fallSilent
      refine OnlyDocks.trans ?_ (onlyDocks_settle _)
      split
      · exact (hsilent _).trans (onlyDocks_plantSilence _)
      · exact hsilent _
    · exact OnlyDocks.rfl
  · exact OnlyDocks.rfl

/-- The working copy and the report's counts in place, before the load's alarms and the silence limits are judged (R194). -/
def loadedCopy (l : Load) (s : State) : State :=
  { s.setProfile l.profile with
    power := .running
    report := { s.report with
      loaded := l.countOf .loaded, corrected := l.countOf .corrected, blank := l.countOf .blank,
      defaulted := l.countOf .defaulted } }

theorem onlyDocks_finishLoad (l : Load) (s : State) : OnlyDocks (loadedCopy l s) (finishLoad l s) :=
  (onlyDocks_forEach (fun i => onlyDocks_raise _ (.entry i)) l.faults (loadedCopy l s)).trans
    (onlyDocks_forEach onlyDocks_judgeSilence allPorts _)

/-- The state that the catch-up finds: the load's end, with the outage in the report (R197). -/
def beforeCatchUp (reads : List (Nat × StoredEntry)) (s : State) : State :=
  let t := finishLoad (loadAll s reads) (keepReads reads s)
  { t with report := { t.report with outage := if t.report.kept then outageOf t else 0 } }

theorem finishLoad_pallets (l : Load) (s : State) : (finishLoad l s).pallets = s.pallets :=
  (congrArg State.pallets (onlyDocks_finishLoad l s)).trans rfl

theorem finishLoad_clock (l : Load) (s : State) : (finishLoad l s).clock = s.clock :=
  (congrArg State.clock (onlyDocks_finishLoad l s)).trans rfl

theorem finishLoad_exposure (l : Load) (s : State) : (finishLoad l s).exposure = s.exposure :=
  (congrArg State.exposure (onlyDocks_finishLoad l s)).trans rfl

/-- The load leaves the catch-up the records as they stood, and clock and stamp (R41). -/
theorem beforeCatchUp_pallets (reads : List (Nat × StoredEntry)) (s : State) : (beforeCatchUp reads s).pallets = s.pallets := by
  simp only [beforeCatchUp, finishLoad_pallets, keepReads, setStore_pallets]

theorem beforeCatchUp_outage (reads : List (Nat × StoredEntry)) (s : State) :
    outageOf (beforeCatchUp reads s) = s.clock - s.exposure.lastStamp := by
  simp only [beforeCatchUp, outageOf, finishLoad_clock, finishLoad_exposure, keepReads, setStore_clock, setStore_exposure]

/-! ## What a record is judged by -/

/-- The limits that records are judged by are the same: zones, doors and classes, and the zone of each lane. -/
structure SameLimits (s t : State) : Prop where
  zoneEntry : zoneEntry t = zoneEntry s
  doorZone : doorZone t = doorZone s
  laneZone : laneZone t = laneZone s
  classEntry : classEntry t = classEntry s

theorem SameLimits.of_profile {s t : State} (h : t.profile = s.profile) : SameLimits s t := by
  constructor <;> funext _ <;> simp [Machine.zoneEntry, Machine.doorZone, Machine.laneZone, Machine.classEntry, doorEntry, laneEntry, h]

theorem SameLimits.trans {s t u : State} (a : SameLimits s t) (b : SameLimits t u) : SameLimits s u :=
  ⟨b.zoneEntry.trans a.zoneEntry, b.doorZone.trans a.doorZone, b.laneZone.trans a.laneZone, b.classEntry.trans a.classEntry⟩

theorem SameLimits.unresolvedTemp {s t : State} (h : SameLimits s t) : unresolvedTemp t = unresolvedTemp s := by
  have hused : zoneUsed t = zoneUsed s := by funext z; simp [zoneUsed, h.zoneEntry]
  have hhigh : highAlarm t = highAlarm s := by funext z; simp [highAlarm, h.zoneEntry]
  simp [Machine.unresolvedTemp, hused, hhigh]

theorem SameLimits.catchUpTemp {s t : State} (h : SameLimits s t) (loc : Location) : catchUpTemp t loc = catchUpTemp s loc := by
  have hzone : placeZone t = placeZone s := by funext w; cases w <;> simp [placeZone, h.doorZone, h.laneZone]
  cases loc <;> simp [Machine.catchUpTemp, zoneUsed, highAlarm, h.zoneEntry, h.unresolvedTemp, hzone]

theorem SameLimits.dwellGrows {s t : State} (h : SameLimits s t) (loc : Location) : DwellGrows t loc ↔ DwellGrows s loc := by
  rcases loc with (d | l | z) | m | _ <;> simp [DwellGrows, h.zoneEntry, h.laneZone]

/-! ## What the work after the catch-up leaves -/

/-- A record that may have moved: its location and history may differ, and nothing else (R47, R58). -/
def Pallet.MovedTo (p q : Pallet) : Prop := ∃ loc hist, q = { p with location := loc, history := hist }

/-- The notices of the work after the catch-up. -/
abbrev resumeNotices : List NoticeKind := [.alarmChange, .unresolved, .profileChanged, .doorChange, .loopChange]

/-- What the start-up work after the catch-up may do to the records, their limits and the reports: records become UNRESOLVED, lanes are
widened, and conditions end at doors. -/
structure Resumes (s t : State) : Prop where
  pallets : ∃ f : Pallet → Pallet, (∀ p : Pallet, p.MovedTo (f p)) ∧ t.pallets = s.pallets.map f
  limits : SameLimits s t
  told : Told resumeNotices s t
  alarmed : Alarmed [.doorOpenLong, .doorBreach] s t

theorem Resumes.trans {s t u : State} (a : Resumes s t) (b : Resumes t u) : Resumes s u := by
  obtain ⟨f, hf, hs⟩ := a.pallets
  obtain ⟨g, hg, ht⟩ := b.pallets
  refine ⟨⟨g ∘ f, fun p => ?_, by rw [ht, hs, List.map_map]⟩, a.limits.trans b.limits, a.told.trans b.told, a.alarmed.trans b.alarmed⟩
  obtain ⟨_, _, hfp⟩ := hf p
  obtain ⟨loc, hist, hgp⟩ := hg (f p)
  exact ⟨loc, hist, by rw [Function.comp_apply, hgp, hfp]⟩

/-- An operation that leaves records and profile alone. -/
theorem Resumes.of_frame {s t : State} (hp : t.pallets = s.pallets) (hr : t.profile = s.profile) (ht : Told resumeNotices s t)
    (ha : Alarmed [.doorOpenLong, .doorBreach] s t) : Resumes s t :=
  ⟨⟨id, fun _ => ⟨_, _, Eq.refl _⟩, by rw [hp, List.map_id]⟩, SameLimits.of_profile hr, ht, ha⟩

/-- One that leaves the reports alone too. -/
theorem Resumes.of_quiet {s t : State} (hp : t.pallets = s.pallets) (hr : t.profile = s.profile) (ha : t.alarms = s.alarms)
    (hq : t.ports = s.ports) : Resumes s t :=
  .of_frame hp hr (Told.of_ports hq) (Alarmed.of_alarms ha)

theorem Resumes.rfl {s : State} : Resumes s s := .of_quiet (Eq.refl _) (Eq.refl _) (Eq.refl _) (Eq.refl _)

theorem resumes_post {k : NoticeKind} (hk : k ∈ resumeNotices) (s : State) : Resumes s (post k s) :=
  .of_frame (by simp) (by simp) ((told_post k s).wider (by simpa using hk)) (Alarmed.of_alarms (by simp))

theorem resumes_postIf {k : NoticeKind} (hk : k ∈ resumeNotices) (b : Bool) (s : State) : Resumes s (postIf b k s) := by
  cases b
  · exact Resumes.rfl
  · exact resumes_post hk s

theorem resumes_clear {k : AlarmKind} (hk : k ∈ [AlarmKind.doorOpenLong, .doorBreach]) (sub : Subject) (s : State) :
    Resumes s (clear k sub s) :=
  .of_frame (by simp) (by simp) ((told_clear k sub s).wider (by simp)) ((alarmed_clear k sub s).wider (by simpa using hk))

theorem resumes_modDoor (d : DoorId) (f : DoorRecord → DoorRecord) (s : State) : Resumes s (s.modDoor d f) :=
  .of_quiet (by simp) (by simp) (by simp) (by simp)

theorem resumes_setPermit (d : DoorId) (b : Bool) (s : State) : Resumes s (setPermit d b s) :=
  .of_quiet (by simp) (by simp) (by simp) (by simp)

theorem resumes_forEach {α : Type} {f : α → State → State} (h : ∀ x s, Resumes s (f x s)) (xs : List α) (s : State) :
    Resumes s (forEach xs f s) :=
  forEach_inv (Resumes s) f (fun x t ht => ht.trans (h x t)) xs s Resumes.rfl

/-- Records that meet a test become UNRESOLVED (R58). -/
theorem resumes_unresolveWhere (sel : Pallet → Bool) (s : State) : Resumes s (unresolveWhere sel s) := by
  refine Resumes.trans (t := s.setPallets (s.pallets.map fun p => if sel p then p.unresolvedAt s.clock else p))
    ⟨⟨_, fun p => ?_, rfl⟩, .of_profile (rfl), Told.of_ports (rfl), Alarmed.of_alarms (rfl)⟩
    (resumes_postIf (by simp) _ _)
  split
  · exact ⟨_, _, rfl⟩
  · exact ⟨_, _, rfl⟩

/-- The lanes of UNUSED zones are emptied (R86). -/
theorem resumes_unresolveUnused (s : State) : Resumes s (unresolveUnused s) := by
  have hlanes : ∀ (t : State) x, Resumes t (t.setLanes x) := fun _ _ => .of_quiet (by simp) (by simp) (by simp) (by simp)
  unfold unresolveUnused
  exact (resumes_unresolveWhere _ s).trans (hlanes _ _)

/-- A widened lane stays in its zone (R85). -/
theorem resumes_raiseLanes (s : State) : Resumes s (raiseLanes s) := by
  have hset : ∀ lanes : Bank LaneEntry 32, (∀ l, (lanes.get l).zone = laneZone s l) →
      Resumes s (s.setProfile { s.profile with lanes := lanes }) := fun lanes h =>
    ⟨⟨id, fun _ => ⟨_, _, rfl⟩, (List.map_id _).symm⟩, ⟨rfl, rfl, funext h, rfl⟩,
      Told.of_ports (by simp), Alarmed.of_alarms (by simp)⟩
  unfold raiseLanes
  refine (hset _ fun l => ?_).trans (resumes_postIf (by simp) _ _)
  rw [bank_get_ofFn]
  split <;> rfl

theorem resumes_startDoor (d : DoorId) (s : State) : Resumes s (startDoor d s) := by
  have hput : ∀ r, Resumes s (setPermit d false (s.putDoor d r)) := fun _ =>
    .of_quiet (by simp) (by simp) (by simp) (by simp)
  unfold startDoor
  split
  · exact hput _
  · exact (hput _).trans (resumes_unresolveWhere _ _)

theorem resumes_startDoors (s : State) : Resumes s (startDoors s) := by
  have hwaits : Resumes s (s.setWaits (Bank.fill [])) := .of_quiet (by simp) (by simp) (by simp) (by simp)
  unfold startDoors
  exact hwaits.trans (resumes_forEach resumes_startDoor allDoors _)

theorem resumes_leaveOpen (d : DoorId) (s : State) : Resumes s (leaveOpen d s) := by
  have hend : Resumes s (endOpenLong d s) := by
    unfold endOpenLong
    split
    · exact (resumes_modDoor _ _ _).trans (resumes_clear (by simp) _ _)
    · exact Resumes.rfl
  exact hend.trans ((resumes_modDoor _ _ _).trans (resumes_setPermit _ _ _))

theorem resumes_loseDoor (d : DoorId) (s : State) : Resumes s (loseDoor d s) := by
  have hbreach : ∀ t, Resumes t (endBreach d t) := by
    intro t
    unfold endBreach
    split
    · exact resumes_clear (by simp) _ _
    · exact Resumes.rfl
  have hwait : ∀ t, Resumes t (leaveWait d t) := fun _ => .of_quiet (rfl) (rfl) (rfl) (rfl)
  unfold loseDoor
  split
  · exact Resumes.rfl
  · exact (resumes_leaveOpen d s).trans ((hwait _).trans ((hbreach _).trans
      ((resumes_modDoor _ _ _).trans (resumes_post (by simp) _))))

theorem resumes_beginRun (s : State) : Resumes s (beginRun s) := by
  have hloop : ∀ (t : State) x, Resumes t (t.setLoop x) := fun _ _ => .of_quiet (by simp) (by simp) (by simp) (by simp)
  have hlost : ∀ x, Resumes s (post .loopChange (forEach allDoors loseDoor (s.setLoop x))) := fun x =>
    ((hloop s x).trans (resumes_forEach resumes_loseDoor allDoors _)).trans (resumes_post (by simp) _)
  unfold beginRun
  dsimp only
  split
  · exact (hlost _).trans (hloop _ _)
  · exact hlost _

theorem completeLoad_loading {s : State} (hp : s.power = .loading) (reads : List (Nat × StoredEntry)) : completeLoad reads s =
    beginRun (startDoors (raiseLanes (unresolveUnused (convertTransits (catchUp (beforeCatchUp reads s)))))) := by
  unfold completeLoad
  rw [if_pos hp]
  rfl

/-- The end of the load is the catch-up of what it found, and work that only resumes from there. -/
theorem resumes_completeLoad {s : State} (hp : s.power = .loading) (reads : List (Nat × StoredEntry)) :
    Resumes (catchUp (beforeCatchUp reads s)) (completeLoad reads s) := by
  rw [completeLoad_loading hp]
  generalize catchUp (beforeCatchUp reads s) = t
  have hconvert : Resumes t (convertTransits t) := resumes_unresolveWhere _ t
  exact ((hconvert.trans (resumes_unresolveUnused _)).trans (resumes_raiseLanes _)).trans
    ((resumes_startDoors _).trans (resumes_beginRun _))

end Sys2Proof.Machine
end

section
/-! PROOFS. The catch-up of a start-up (02_exposure_accounting.md R33 to R36, R41 to R43). -/

namespace Sys2Proof.Machine

/-! ## The catch-up temperature (R42) -/

/-- What a zone of a route gives. -/
def routeLimit (s : State) (z : ZoneId) : Int := if (zoneEntry s z).kind = .unused then unresolvedTemp s else highAlarm s z

theorem catchUpTemp_at (s : State) (w : Place) : catchUpTemp s (.at w) = cut (highAlarm s (placeZone s w)) := clampTemp_eq_cut _

/-- A transit is charged at the largest that its route gives. -/
theorem catchUpTemp_transit (s : State) {m : Transit} (h : m.route ≠ []) :
    (∃ z ∈ m.route, catchUpTemp s (.transit m) = cut (routeLimit s z)) ∧
    ∀ z ∈ m.route, cut (routeLimit s z) ≤ catchUpTemp s (.transit m) := by
  have hgives : (fun z => if zoneUsed s z then highAlarm s z else unresolvedTemp s) = routeLimit s := by
    funext z
    cases hu : (zoneEntry s z).kind <;> simp [routeLimit, zoneUsed, hu]
  obtain ⟨x, hx, hin, hmax⟩ := maxOf_spec (xs := m.route.map (routeLimit s)) (by simpa using h)
  have htemp : catchUpTemp s (.transit m) = cut x := by
    simp only [catchUpTemp, hgives, hx, Option.getD_some, clampTemp_eq_cut]
  obtain ⟨z, hz, rfl⟩ := List.mem_map.1 hin
  rw [htemp]
  exact ⟨⟨z, hz, rfl⟩, fun y hy => cut_mono (hmax _ (List.mem_map_of_mem hy))⟩

/-! ## One record (R41 to R43) -/

/-- An outage of 0 leaves the charge of the record as it was. -/
theorem caughtUp_zero (s : State) (p : Pallet) :
    caughtUp s 0 p = { p with status := statusOf (classEntry s p.cls) p.account, charged := false } := rfl

/-- An outage charges the record and marks it ESTIMATED. -/
theorem caughtUp_outage (s : State) {outage : Nat} (h : 0 < outage) (p : Pallet) :
    let c := classEntry s p.cls
    let r := chargedAccount c (catchUpTemp s p.location) outage p.account p.residue
    caughtUp s outage p =
      { p with account := r.1, residue := r.2, peak := raisedPeak p.peak (catchUpTemp s p.location), estimated := true,
               dwell := p.dwellAfter s outage, status := statusOf c r.1, charged := false } := by
  simp [caughtUp, Pallet.charge, Nat.ne_of_gt h]

/-- The catch-up writes no other field, and the status follows the account (R34). -/
theorem caughtUp_keeps (s : State) (outage : Nat) (p : Pallet) : caughtUp s outage p =
    { p with account := (caughtUp s outage p).account, residue := (caughtUp s outage p).residue,
             estimated := (caughtUp s outage p).estimated, peak := (caughtUp s outage p).peak,
             dwell := (caughtUp s outage p).dwell, charged := false,
             status := statusOf (classEntry s p.cls) (caughtUp s outage p).account } := by
  rcases Nat.eq_zero_or_pos outage with rfl | h
  · rw [caughtUp_zero]
  · rw [caughtUp_outage s h]

theorem caughtUp_tag (s : State) (outage : Nat) (p : Pallet) : (caughtUp s outage p).tag = p.tag := by rw [caughtUp_keeps]

/-- An outage charges the record once at its catch-up temperature, and its dwell grows in the cases of R33. -/
theorem caughtUp_charges {s t : State} (hl : SameLimits s t) {outage : Nat} (h : 0 < outage) (p : Pallet) :
    let q := caughtUp s outage p
    let temp := catchUpTemp t p.location
    let sum := p.residue + (temp - (classEntry t p.cls).threshold).toNat * outage
    (q.account = min 65535 (p.account + sum / 60) ∧ (q.account < 65535 → q.residue = sum % 60) ∧ (q.account = 65535 → q.residue = 0)) ∧
    q.estimated = true ∧ q.peak = raisedPeak p.peak temp ∧
    (DwellGrows t p.location → q.dwell = min 65535 (p.dwell + outage)) ∧ (¬ DwellGrows t p.location → q.dwell = p.dwell) := by
  dsimp only
  rw [hl.catchUpTemp, hl.classEntry, hl.dwellGrows, caughtUp_outage s h]
  obtain ⟨haccount, hresidue, hfull⟩ :=
    chargedAccount_spec (classEntry s p.cls) (catchUpTemp s p.location) outage p.account p.residue
  exact ⟨⟨haccount, fun hlt => (hresidue hlt).trans (Nat.mod_def _ _).symm, hfull⟩, rfl, rfl,
    fun hg => dwellAfter_grows hg outage, fun hg => dwellAfter_stays hg outage⟩

/-! ## The conditions that stand (R43) -/

/-- The conditions that a record calls for stand. -/
structure StandsFor (c : ClassEntry) (q : Pallet) (t : State) : Prop where
  overStands : q.status = .over → Stands .palletOver (.tag q.tag) t
  dwellStands : 60 * c.maxDwell < q.dwell → Stands .dwellExceeded (.tag q.tag) t

theorem StandsFor.alarmed {c : ClassEntry} {q : Pallet} {ks : List AlarmKind} {s t : State} (h : StandsFor c q s) (a : Alarmed ks s t)
    (hk : .palletOver ∉ ks ∧ .dwellExceeded ∉ ks) : StandsFor c q t :=
  ⟨fun hq => (h.overStands hq).alarmed a hk.1, fun hq => (h.dwellStands hq).alarmed a hk.2⟩

theorem Stands.raiseStanding {k : AlarmKind} {sub : Subject} {s : State} (h : Stands k sub s) (hk : k.isEvent = false) (p : Pallet) :
    Stands k sub (raiseStanding p s) := by
  unfold Machine.raiseStanding
  dsimp only
  split <;> split
  · exact (h.raised hk _ _).raised hk _ _
  · exact h.raised hk _ _
  · exact h.raised hk _ _
  · exact h

theorem onlyReports_raiseStanding (p : Pallet) (s : State) : OnlyReports s (raiseStanding p s) := by
  unfold raiseStanding OnlyReports
  dsimp only
  split <;> split <;> apply state_eq <;> simp

theorem standsFor_raiseStanding (p : Pallet) (s : State) : StandsFor (classEntry s p.cls) p (raiseStanding p s) := by
  unfold raiseStanding
  dsimp only
  refine ⟨fun ho => ?_, fun hd => ?_⟩
  · rw [if_pos ho]
    split
    · exact (stands_raise rfl _ _).raised rfl _ _
    · exact stands_raise rfl _ _
  · rw [if_pos ((dwellExceeds_iff _ _).2 hd)]
    exact stands_raise rfl _ _

/-- Each record's conditions are raised in turn, and no later raise takes one away. -/
theorem standsFor_raiseAll {qs : List Pallet} {q : Pallet} (h : q ∈ qs) (s : State) :
    StandsFor (classEntry s q.cls) q (forEach qs raiseStanding s) := by
  have keep : ∀ (rs : List Pallet) (t : State) (c : ClassEntry), StandsFor c q t → StandsFor c q (forEach rs raiseStanding t) :=
    fun rs t c ht => forEach_inv (StandsFor c q) raiseStanding
      (fun p _ hu => ⟨fun ho => (hu.overStands ho).raiseStanding rfl p, fun hd => (hu.dwellStands hd).raiseStanding rfl p⟩) rs t ht
  induction qs generalizing s with
  | nil => cases h
  | cons p qs ih =>
    change StandsFor _ q (forEach qs raiseStanding (raiseStanding p s))
    rcases List.mem_cons.1 h with rfl | h
    · exact keep qs _ _ (standsFor_raiseStanding q s)
    · have hclass : classEntry (raiseStanding p s) = classEntry s := by rw [onlyReports_raiseStanding p s]; rfl
      rw [← hclass]
      exact ih h _

/-! ## The whole catch-up -/

/-- The state with every record caught up, before its conditions and its notice. -/
def recordsCaughtUp (s : State) : State := s.setPallets (s.pallets.map (caughtUp s (outageOf s)))

/-- A record's status changed at the catch-up. -/
def statusesChanged (s : State) : Bool :=
  (s.pallets.zip (s.pallets.map (caughtUp s (outageOf s)))).any fun x => x.1.status != x.2.status

theorem catchUp_eq (s : State) : ∃ x, catchUp s = (postIf (statusesChanged s) .palletStatus
    (forEach (s.pallets.map (caughtUp s (outageOf s))) raiseStanding (recordsCaughtUp s))).setExposure x := ⟨_, rfl⟩

theorem onlyReports_raiseAll (qs : List Pallet) (s : State) : OnlyReports s (forEach qs raiseStanding s) := by
  refine forEach_inv (OnlyReports s) raiseStanding (fun p t ht => ?_) qs s (rfl)
  have hp := onlyReports_raiseStanding p t
  unfold OnlyReports at *
  rw [hp, ht]

theorem catchUp_pallets (s : State) : (catchUp s).pallets = s.pallets.map (caughtUp s (outageOf s)) := by
  obtain ⟨x, h⟩ := catchUp_eq s
  rw [h, setExposure_pallets, postIf_pallets, onlyReports_raiseAll]
  rfl

theorem sameLimits_catchUp (s : State) : SameLimits s (catchUp s) := by
  obtain ⟨x, h⟩ := catchUp_eq s
  refine SameLimits.of_profile ?_
  rw [h, setExposure_profile, postIf_profile, onlyReports_raiseAll]
  rfl

theorem standsFor_catchUp (s : State) {p : Pallet} (hp : p ∈ s.pallets) :
    StandsFor (classEntry s p.cls) (caughtUp s (outageOf s) p) (catchUp s) := by
  obtain ⟨x, h⟩ := catchUp_eq s
  have hcls : (caughtUp s (outageOf s) p).cls = p.cls := by rw [caughtUp_keeps]
  have hall := standsFor_raiseAll (List.mem_map_of_mem (f := caughtUp s (outageOf s)) hp) (recordsCaughtUp s)
  rw [hcls] at hall
  rw [h]
  exact hall.alarmed (ks := []) (Alarmed.of_alarms (postIf_alarms _ _ _)) (by simp)

/-- A change of any record's status posts PALLET STATUS (R43). -/
theorem posted_catchUp (s : State) {p : Pallet} (hp : p ∈ s.pallets) (hne : (caughtUp s (outageOf s) p).status ≠ p.status) :
    Posted .palletStatus (catchUp s) := by
  obtain ⟨x, h⟩ := catchUp_eq s
  have hzip : s.pallets.zip (s.pallets.map (caughtUp s (outageOf s))) = s.pallets.map fun p => (p, caughtUp s (outageOf s) p) := by
    simpa using List.zip_map' (f := id) (g := caughtUp s (outageOf s)) (l := s.pallets)
  have hchanged : statusesChanged s = true := by
    unfold statusesChanged
    rw [hzip, List.any_map, List.any_eq_true]
    exact ⟨p, hp, by simpa using hne.symm⟩
  rw [h, hchanged]
  exact (posted_post _ _).told (Told.of_ports (ks := []) rfl)

/-- A record is found after the start-up as the catch-up left it, but for its place. -/
theorem found_after_catchUp {s t : State} (h : Resumes (catchUp s) t) (hn : (s.pallets.map Pallet.tag).Nodup) {p : Pallet}
    (hp : p ∈ s.pallets) : ∃ q, findPallet t p.tag = some q ∧ (caughtUp s (outageOf s) p).MovedTo q := by
  obtain ⟨f, hf, htable⟩ := h.pallets
  have htag : ∀ q, (f (caughtUp s (outageOf s) q)).tag = q.tag := fun q => by
    obtain ⟨_, _, hq⟩ := hf (caughtUp s (outageOf s) q)
    rw [hq]
    exact caughtUp_tag s _ q
  rw [catchUp_pallets, List.map_map] at htable
  refine ⟨_, ?_, hf _⟩
  rw [findPallet_map htag htable, findPallet_of_mem hn hp]
  rfl

/-- Settles O18: the record is found as the catch-up left it but for its place; the limits it is judged by are those of the state the event
leaves. -/
theorem catchUpChargesTheOutage : Obligations.CatchUpChargesTheOutage := by
  unfold Obligations.CatchUpChargesTheOutage
  intro s reads p hpower hp hn
  have hexec : exec (.profileLoadComplete reads) s = .next (completeLoad reads s) := rfl
  have hresumes := resumes_completeLoad hpower reads
  have hpallets := beforeCatchUp_pallets reads s
  have hout := beforeCatchUp_outage reads s
  generalize completeLoad reads s = t at *
  generalize beforeCatchUp reads s = w at *
  obtain ⟨q, hfind, hmoved⟩ := found_after_catchUp hresumes (hpallets ▸ hn) (hpallets ▸ hp)
  have hlimits : SameLimits w t := (sameLimits_catchUp w).trans hresumes.limits
  have hstands := (standsFor_catchUp w (hpallets ▸ hp)).alarmed hresumes.alarmed (by decide)
  have hposted := fun hne => (posted_catchUp w (hpallets ▸ hp) hne).told hresumes.told
  rw [← hlimits.classEntry] at hstands
  rw [hout] at hmoved hstands hposted
  dsimp only
  generalize s.clock - s.exposure.lastStamp = outage at *
  obtain ⟨loc, hist, rfl⟩ := hmoved
  have htag := caughtUp_tag w outage p
  refine ⟨t, _, hexec, hfind, ?temp, ?idle, fun h => ?charged, fun h => htag ▸ hstands.overStands h,
    fun h => htag ▸ hstands.dwellStands h, hposted, ?status, ?cls, ?moves, ?arrived, ?overridden⟩
  case temp =>
    generalize p.location = loc
    rcases loc with (d | l | z) | m | _
    · exact catchUpTemp_at t (.trailer d)
    · exact catchUpTemp_at t (.lane l)
    · exact catchUpTemp_at t (.bulk z)
    · exact catchUpTemp_transit t
    · rfl
  case idle => rintro rfl; rw [caughtUp_zero]; exact ⟨rfl, rfl, rfl, rfl, rfl⟩
  case charged =>
    obtain ⟨⟨haccount, hresidue, hfull⟩, hmark, hpeak, hdwell⟩ := caughtUp_charges hlimits h p
    exact ⟨haccount, hmark, hresidue, hfull, hpeak.trans (by cases p.peak <;> rfl), hdwell⟩
  case status => rw [hlimits.classEntry, caughtUp_keeps]
  all_goals rw [caughtUp_keeps]

end Sys2Proof.Machine
end

section
/-! SUPPORT. The queue service and the grant judgment leave nothing to serve or grant, whatever the state they begin in: a second judgment
after the first does nothing (05_dock_doors.md R113, 07_defrost_coordination.md R140). -/

namespace Sys2Proof.Machine

/-! ## Opening doors takes no hold away -/

/-- No door stops counting as open, and nothing else that an open is judged by has changed. -/
structure OpensOnly (s t : State) : Prop where
  units : t.units = s.units
  zones : t.zones = s.zones
  profile : t.profile = s.profile
  doors : ∀ d, (doorState s d).countsOpen = true → (doorState t d).countsOpen = true

theorem OpensOnly.rfl {s : State} : OpensOnly s s := ⟨Eq.refl _, Eq.refl _, Eq.refl _, fun _ h => h⟩

theorem OpensOnly.trans {s t u : State} (a : OpensOnly s t) (b : OpensOnly t u) : OpensOnly s u :=
  ⟨b.units.trans a.units, b.zones.trans a.zones, b.profile.trans a.profile, fun d h => b.doors d (a.doors d h)⟩

theorem OpensOnly.openCount_le {s t : State} (h : OpensOnly s t) (z : ZoneId) : openCount s z ≤ openCount t z := by
  have hzone : ∀ d, doorZone t d = doorZone s d := fun d => by simp [doorZone, doorEntry, h.profile]
  unfold openCount
  rw [← List.countP_eq_length_filter, ← List.countP_eq_length_filter]
  refine List.countP_mono_left fun d _ hd => ?_
  rw [Bool.and_eq_true] at hd ⊢
  obtain ⟨hz, ho⟩ := hd
  exact ⟨by rwa [hzone], h.doors d ho⟩

/-- A zone that allows no open allows none after more doors have opened (R111). -/
theorem OpensOnly.allowsOpen {s t : State} (h : OpensOnly s t) {z : ZoneId} (hs : allowsOpen s z = false) :
    allowsOpen t z = false := by
  have hlimit : limitInForce t z = limitInForce s z := by unfold limitInForce highActive zoneEntry; rw [h.zones, h.profile]
  have hcount := h.openCount_le z
  unfold Machine.allowsOpen at hs ⊢
  rw [hlimit, h.units]
  rw [Bool.and_eq_false_iff, decide_eq_false_iff_not] at hs ⊢
  exact hs.imp_right fun hle => by omega

theorem endForced_doorState (d e : DoorId) (s : State) : doorState (endForced d s) e = doorState s e := by
  unfold endForced
  split
  · by_cases h : d = e
    · subst h; simp [doorState]
    · simp [doorState, bank_get_put_other _ _ _ _ h]
  · rfl

theorem opensOnly_openEntry (d : DoorId) (s : State) : OpensOnly s (openEntry d s) := by
  refine ⟨by simp, by simp, by simp, fun e he => ?_⟩
  by_cases h : d = e
  · subst h; simp [openEntry, doorState, DoorState.countsOpen]
  · have hstate : doorState (openEntry d s) e = doorState (endForced d s) e := by
      simp [openEntry, doorState, bank_get_put_other _ _ _ _ h]
    rwa [hstate, endForced_doorState]

/-- One head of a wait queue served. -/
theorem opensOnly_serveHead (z : ZoneId) (d : DoorId) (rest : List DoorId) (s : State) :
    OpensOnly s (post .openGranted (openEntry d (s.putWait z rest))) := by
  have hput : OpensOnly s (s.putWait z rest) := ⟨rfl, rfl, rfl, fun _ h => h⟩
  have hpost : ∀ t, OpensOnly t (post .openGranted t) := fun t => ⟨rfl, rfl, rfl, fun _ h => h⟩
  exact (hput.trans (opensOnly_openEntry d _)).trans (hpost _)

theorem opensOnly_serviceZone (z : ZoneId) (n : Nat) (s : State) : OpensOnly s (serviceZone z n s) := by
  induction n generalizing s with
  | zero => exact .rfl
  | succ n ih =>
    unfold serviceZone
    split
    · exact .rfl
    · split
      · exact (opensOnly_serveHead z _ _ s).trans (ih _)
      · exact .rfl

/-! ## What the queue service leaves (R113) -/

/-- Nothing is left to serve in the zone's wait queue. -/
def ZoneHeld (z : ZoneId) (s : State) : Prop := s.waits.get z ≠ [] → allowsOpen s z = false

theorem serviceZone_waits_other {y z : ZoneId} (h : y ≠ z) (n : Nat) (s : State) :
    (serviceZone y n s).waits.get z = s.waits.get z := by
  induction n generalizing s with
  | zero => rfl
  | succ n ih =>
    unfold serviceZone
    split
    · rfl
    · split
      · rw [ih]; simp [bank_get_put_other _ _ _ _ h]
      · rfl

/-- With a step for each door that waits, the service of a zone serves all it may. -/
theorem zoneHeld_serviceZone (z : ZoneId) {n : Nat} {s : State} (h : (s.waits.get z).length ≤ n) : ZoneHeld z (serviceZone z n s) := by
  induction n generalizing s with
  | zero => exact fun hw => absurd (List.length_eq_zero_iff.1 (Nat.le_zero.1 h)) hw
  | succ n ih =>
    unfold serviceZone
    split
    · next hnil => exact fun hw => absurd hnil hw
    · next d rest hcons =>
      split
      · refine ih ?_
        rw [hcons, List.length_cons] at h
        simpa using h
      · next hheld => exact fun _ => by simpa using hheld

theorem zoneHeld_service (y z : ZoneId) {s : State} (h : ZoneHeld z s) : ZoneHeld z (service y s) := by
  by_cases hyz : y = z
  · subst hyz; exact zoneHeld_serviceZone y (Nat.le_refl _)
  · intro hw
    unfold service at hw ⊢
    rw [serviceZone_waits_other hyz] at hw
    exact (opensOnly_serviceZone y _ s).allowsOpen (h hw)

theorem zoneHeld_forEach {z : ZoneId} {zs : List ZoneId} (h : z ∈ zs) (s : State) : ZoneHeld z (forEach zs service s) := by
  induction zs generalizing s with
  | nil => cases h
  | cons y zs ih =>
    rcases List.mem_cons.1 h with rfl | h
    · exact forEach_inv (ZoneHeld z) service (fun y _ ht => zoneHeld_service y z ht) zs _ (zoneHeld_serviceZone z (Nat.le_refl _))
    · exact ih h _

theorem doorsHeld_serviceAll (s : State) : DoorsHeld (serviceAll s) := fun z => zoneHeld_forEach (List.mem_finRange z) s

/-! ## What the grant judgment leaves (R140) -/

theorem grantDefrost_defrostQueue (z : ZoneId) (s : State) :
    (grantDefrost z s).defrostQueue = s.defrostQueue.filter fun y => y != z := by
  simp [grantDefrost, leaveRequested]

/-- With a step for each zone that waits, the grant loop grants all it may. -/
theorem grantLoop_gates {n : Nat} {s : State} (h : s.defrostQueue.length ≤ n) :
    ∀ z ∈ (grantLoop n s).defrostQueue, gatesPass (grantLoop n s) z = false := by
  induction n generalizing s with
  | zero =>
    intro z hz
    rw [grantLoop, List.length_eq_zero_iff.1 (Nat.le_zero.1 h)] at hz
    cases hz
  | succ n ih =>
    unfold grantLoop
    split
    · next hnone => exact fun z hz => by simpa using List.find?_eq_none.1 hnone z hz
    · next z hsome =>
      refine ih ?_
      have hshorter : (s.defrostQueue.filter fun y => y != z).length < s.defrostQueue.length :=
        List.length_filter_lt_length_iff_exists.2 ⟨z, List.mem_of_find?_eq_some hsome, by simp⟩
      rw [grantDefrost_defrostQueue]
      omega

/-- After the queue service and the grant judgment nothing that may be served or granted waits (R113, R140). -/
theorem settled_settle (s : State) : Settled (settle s) :=
  ⟨doorsHeld_grantLoop _ (doorsHeld_serviceAll s), grantLoop_gates (Nat.le_refl _)⟩

/-- A second judgment after the first does nothing. -/
theorem settle_settle (s : State) : settle (settle s) = settle s := settle_settled (settled_settle s)

end Sys2Proof.Machine
end

section
/-! SUPPORT. How a refused and an accepted request are served, what putting a record in place does to the table, and what the end of a
transit leaves (03_the_pallet_table.md R44, R58, R63, 04_moves_and_staging_lanes.md R76 to R84). -/

namespace Sys2Proof.Machine

/-! ## Only the reports move -/

theorem OnlyReports.trans {s t u : State} (a : OnlyReports s t) (b : OnlyReports t u) : OnlyReports s u := by
  unfold OnlyReports at *
  rw [b, a]

/-- What is read off neither the Alarm List nor the ports reads as before. -/
theorem OnlyReports.read {α : Type} {s t : State} (h : OnlyReports s t) (g : State → α)
    (hg : ∀ s a ps, g { s with alarms := a, ports := ps } = g s) : g t = g s := by
  rw [show t = _ from h]
  exact hg s t.alarms t.ports

theorem onlyReports_takeFrame (p : Port) (s : State) : OnlyReports s (takeFrame p s) := by
  unfold OnlyReports
  apply state_eq <;> simp

theorem onlyReports_clear (k : AlarmKind) (sub : Subject) (s : State) : OnlyReports s (clear k sub s) := by
  unfold OnlyReports
  apply state_eq <;> simp

/-! ## A request served (R183) -/

theorem refuses_of_body {p : Port} {r : Req} {res : Result} {c : Instr} {body : State → Served} {s : State}
    (hc : exec c s = serve p r body s) (ht : Takes p r s) (hb : body (takeFrame p s) = refuse res (takeFrame p s)) :
    Refuses p r res c s := by
  refine ⟨respond p r.code ⟨res, []⟩ (takeFrame p s), ?_, accepted_respond Told.rfl, ?_⟩
  · rw [hc, serve_takes ht, hb]; rfl
  · apply state_eq <;> simp

theorem exec_of_body {p : Port} {r : Req} {res : Result} {pl : List Byte} {c : Instr} {body : State → Served} {s u : State}
    (hc : exec c s = serve p r body s) (ht : Takes p r s) (hb : body (takeFrame p s) = answer res pl u) :
    exec c s = .next (respond p r.code ⟨res, pl⟩ u) := by
  rw [hc, serve_takes ht, hb]; rfl

theorem findPallet_takeFrame (p : Port) (s : State) (tag : Nat) : findPallet (takeFrame p s) tag = findPallet s tag :=
  (onlyReports_takeFrame p s).read (findPallet · tag) fun _ _ _ => rfl

/-! ## A trailer the part can vouch for (R49, R71, R80) -/

theorem directed_iff (x : Option Assignment) (dir : Direction) :
    (x.map fun a => a.direction == dir).getD false = true ↔ x.map Assignment.direction = some dir := by
  cases x <;> simp

theorem takesInbound_iff (s : State) (d : DoorId) : takesInbound s d = true ↔
    (doorState s d).hasTrailer = true ∧ (s.doors.get d).assignment.map Assignment.direction = some .inbound := by
  rw [takesInbound, Bool.and_eq_true, directed_iff]

theorem takesOutbound_iff (s : State) (d : DoorId) : takesOutbound s d = true ↔
    (doorState s d).hasTrailer = true ∧ (s.doors.get d).assignment.map Assignment.direction = some .outbound := by
  rw [takesOutbound, Bool.and_eq_true, directed_iff]

theorem opensOutbound_iff (s : State) (d : DoorId) : opensOutbound s d = true ↔
    doorState s d = .opened ∧ (s.doors.get d).assignment.map Assignment.direction = some .outbound := by
  rw [opensOutbound, Bool.and_eq_true, directed_iff, beq_iff_eq]

/-! ## A record put in place (R44) -/

/-- Only the Pallet Table, the lanes and the reports. -/
def OnlyPlaces (s t : State) : Prop := t = { s with pallets := t.pallets, lanes := t.lanes, alarms := t.alarms, ports := t.ports }

theorem OnlyPlaces.trans {s t u : State} (a : OnlyPlaces s t) (b : OnlyPlaces t u) : OnlyPlaces s u := by
  unfold OnlyPlaces at *
  rw [b, a]

theorem OnlyReports.places {s t : State} (h : OnlyReports s t) : OnlyPlaces s t := by
  unfold OnlyReports at h
  unfold OnlyPlaces
  rw [h]

/-- Where the lanes stay too, only the Pallet Table and the reports. -/
theorem OnlyPlaces.of_lanes {s t : State} (h : OnlyPlaces s t) (hl : t.lanes = s.lanes) :
    t = { s with pallets := t.pallets, alarms := t.alarms, ports := t.ports } := by
  have ht : t = { s with pallets := t.pallets, lanes := t.lanes, alarms := t.alarms, ports := t.ports } := h
  rwa [hl] at ht

/-- The record of `q`'s tag is now `q`, and beside it only lanes and pending notices may have changed. -/
structure PutsRecord (q : Pallet) (s t : State) : Prop where
  found : findPallet t q.tag = some q
  others : PalletsKeptBut q.tag s t
  alarms : t.alarms = s.alarms
  frame : OnlyPlaces s t

theorem PutsRecord.then {q : Pallet} {s t u : State} (h : PutsRecord q s t) (hp : u.pallets = t.pallets) (ha : u.alarms = t.alarms)
    (hf : OnlyPlaces t u) : PutsRecord q s u := by
  have hfind : ∀ k, findPallet u k = findPallet t k := fun k => by unfold findPallet; rw [hp]
  exact ⟨(hfind _).trans h.found, fun k hk => (hfind k).trans (h.others k hk), ha.trans h.alarms, h.frame.trans hf⟩

/-- Putting a record in place of the one with its tag. -/
theorem putsRecord_setPallet {s : State} {p q : Pallet} (hp : findPallet s q.tag = some p) : PutsRecord q s (setPallet q s) := by
  have hfind : ∀ k, findPallet (setPallet q s) k = (findPallet s k).map fun x => if x.tag == q.tag then q else x :=
    findPallet_map (fun x => by split <;> simp_all) rfl
  refine ⟨?found, fun k hk => ?others, rfl, rfl⟩
  case found => simp [hfind, hp, (findPallet_some hp).2]
  case others =>
    rw [hfind]
    cases hk' : findPallet s k with
    | none => rfl
    | some x => simp [(findPallet_some hk').2, hk]

theorem putsRecord_putLane {q : Pallet} {s t : State} (h : PutsRecord q s t) (l : LaneId) (ts : List Nat) :
    PutsRecord q s (t.putLane l ts) := h.then rfl rfl rfl

theorem putsRecord_placePallet {s : State} {p q : Pallet} (hp : findPallet s q.tag = some p) (w : Place) :
    PutsRecord (q.placed w s.clock) s (placePallet w q s) := by
  have hput : PutsRecord (q.placed w s.clock) s (setPallet (q.placed w s.clock) s) := putsRecord_setPallet hp
  cases w with
  | lane l => exact putsRecord_putLane hput l _
  | trailer d => exact hput
  | bulk z => exact hput

theorem putsRecord_returnTo {s : State} {p q : Pallet} (hp : findPallet s q.tag = some p) (w : Place) :
    PutsRecord { q with location := .at w } s (returnTo w q s) := by
  have hput : PutsRecord { q with location := .at w } s (setPallet { q with location := .at w } s) := putsRecord_setPallet hp
  cases w with
  | lane l => exact putsRecord_putLane hput l _
  | trailer d => exact hput
  | bulk z => exact hput

theorem putsRecord_unresolvePallet {s : State} {p q : Pallet} (hp : findPallet s q.tag = some p) :
    PutsRecord (q.unresolvedAt s.clock) s (unresolvePallet q s) :=
  (putsRecord_setPallet (q := q.unresolvedAt s.clock) hp).then rfl rfl rfl

/-! ## The end of the overdue condition (R76) -/

theorem onlyReports_endOverdue (tag : Nat) (m : Transit) (s : State) : OnlyReports s (endOverdue tag m s) := by
  unfold endOverdue
  split
  · exact onlyReports_clear _ _ _
  · rfl

theorem told_endOverdue (tag : Nat) (m : Transit) (s : State) : Told [.alarmChange] s (endOverdue tag m s) := by
  unfold endOverdue
  split
  · exact told_clear _ _ _
  · exact Told.rfl

theorem cleared_endOverdue {m : Transit} (h : m.overdue = true) (tag : Nat) (s : State) :
    Cleared .moveOverdue (.tag tag) (endOverdue tag m s) := by
  rw [endOverdue, if_pos h]
  exact cleared_clear _ _ _

theorem endOverdue_idle {m : Transit} (h : m.overdue = false) (tag : Nat) (s : State) : endOverdue tag m s = s := by
  rw [endOverdue, if_neg (by simp [h])]

/-- The state a transit's end leaves to its destination or origin: the frame is taken, and the overdue condition has ended. -/
def transitOver (tag : Nat) (m : Transit) (s : State) : State := endOverdue tag m (takeFrame .warehouse s)

theorem onlyReports_transitOver (tag : Nat) (m : Transit) (s : State) : OnlyReports s (transitOver tag m s) :=
  (onlyReports_takeFrame _ s).trans (onlyReports_endOverdue tag m _)

@[simp] theorem transitOver_clock (tag : Nat) (m : Transit) (s : State) : (transitOver tag m s).clock = s.clock :=
  (onlyReports_transitOver tag m s).read State.clock fun _ _ _ => rfl

@[simp] theorem transitOver_lanes (tag : Nat) (m : Transit) (s : State) : (transitOver tag m s).lanes = s.lanes :=
  (onlyReports_transitOver tag m s).read State.lanes fun _ _ _ => rfl

@[simp] theorem transitOver_pallets (tag : Nat) (m : Transit) (s : State) : (transitOver tag m s).pallets = s.pallets :=
  (onlyReports_transitOver tag m s).read State.pallets fun _ _ _ => rfl

@[simp] theorem transitOver_doors (tag : Nat) (m : Transit) (s : State) : (transitOver tag m s).doors = s.doors :=
  (onlyReports_transitOver tag m s).read State.doors fun _ _ _ => rfl

@[simp] theorem transitOver_manifests (tag : Nat) (m : Transit) (s : State) : (transitOver tag m s).manifests = s.manifests :=
  (onlyReports_transitOver tag m s).read State.manifests fun _ _ _ => rfl

@[simp] theorem transitOver_findPallet (tag : Nat) (m : Transit) (s : State) (k : Nat) :
    findPallet (transitOver tag m s) k = findPallet s k :=
  (onlyReports_transitOver tag m s).read (findPallet · k) fun _ _ _ => rfl

@[simp] theorem transitOver_zoneUsed (tag : Nat) (m : Transit) (s : State) (z : ZoneId) : zoneUsed (transitOver tag m s) z = zoneUsed s z :=
  (onlyReports_transitOver tag m s).read (zoneUsed · z) fun _ _ _ => rfl

@[simp] theorem transitOver_takesOutbound (tag : Nat) (m : Transit) (s : State) (d : DoorId) :
    takesOutbound (transitOver tag m s) d = takesOutbound s d :=
  (onlyReports_transitOver tag m s).read (takesOutbound · d) fun _ _ _ => rfl

@[simp] theorem transitOver_classEntry (tag : Nat) (m : Transit) (s : State) (c : ClassId) :
    classEntry (transitOver tag m s) c = classEntry s c :=
  (onlyReports_transitOver tag m s).read (classEntry · c) fun _ _ _ => rfl

@[simp] theorem transitOver_originTakes (tag : Nat) (m : Transit) (s : State) (w : Place) :
    originTakes (transitOver tag m s) w = originTakes s w :=
  (onlyReports_transitOver tag m s).read (originTakes · w) fun _ _ _ => rfl

/-- What a transit's end leaves where its pallet stays in the table, with `q` for its record. -/
structure TransitEnded (q : Pallet) (m : Transit) (ks : List NoticeKind) (s u : State) : Prop where
  found : findPallet u q.tag = some q
  others : PalletsKeptBut q.tag s u
  cleared : m.overdue = true → Cleared .moveOverdue (.tag q.tag) u
  quiet : m.overdue = false → u.alarms = (takeFrame .warehouse s).alarms
  notices : OnlyNotices ks (takeFrame .warehouse s) u
  frame : OnlyPlaces s u

theorem transitEnded_of_puts {q : Pallet} {m : Transit} {ks : List NoticeKind} {s u : State} (h : PutsRecord q (transitOver q.tag m s) u)
    (ht : Told ks (transitOver q.tag m s) u) (hk : .alarmChange ∈ ks) : TransitEnded q m ks s u := by
  refine ⟨h.found, fun k hk => ?_, fun ho => ?_, fun ho => ?_, ?_, (onlyReports_transitOver q.tag m s).places.trans h.frame⟩
  · rw [h.others k hk, transitOver_findPallet]
  · have hc : Cleared .moveOverdue (.tag q.tag) (transitOver q.tag m s) := cleared_endOverdue ho _ _
    exact hc.alarmed (ks := []) (Alarmed.of_alarms h.alarms) (by simp)
  · rw [h.alarms, transitOver, endOverdue_idle ho]
  · exact (((told_endOverdue q.tag m _).wider (by simpa using hk)).trans ht).only

/-- The pallet is left UNRESOLVED. -/
theorem transitEnded_unresolved {s : State} {p q : Pallet} (hp : findPallet s q.tag = some p) (m : Transit) :
    TransitEnded (q.unresolvedAt s.clock) m [.alarmChange, .unresolved] s (unresolvePallet q (transitOver q.tag m s)) := by
  have hput := putsRecord_unresolvePallet (s := transitOver q.tag m s) (q := q) ((transitOver_findPallet _ _ _ _).trans hp)
  rw [transitOver_clock] at hput
  refine transitEnded_of_puts hput (Told.trans (Told.of_ports ?_) ((told_post _ _).wider (by simp))) (by simp)
  rfl

theorem unresolvePallet_lanes (q : Pallet) (s : State) : (unresolvePallet q s).lanes = s.lanes := rfl

theorem posted_unresolvePallet (q : Pallet) (s : State) : Posted .unresolved (unresolvePallet q s) := posted_post _ _

end Sys2Proof.Machine
end

section
/-! PROOFS. MOVE (04_moves_and_staging_lanes.md R66 to R73, 02_exposure_accounting.md R37, R38). -/

namespace Sys2Proof.Machine

/-! ## The checks (R66 to R72) -/

theorem clampDuration_eq (n : Nat) : clampDuration n = if n = 0 then 1 else min 1800 n := by
  unfold clampDuration clampNat
  by_cases h : n = 0
  · simp [h]
  · rw [if_neg (by omega), if_neg h]; split <;> omega

/-- The estimate is taken at the largest contribution of the route (R37). -/
theorem estimateOf_hottest {s : State} {origin : Place} {dest : Dest} {zs : List ZoneId} {temp : Int}
    (hmem : ∃ z ∈ zs, (contribution s origin dest z).1 = temp) (hmax : ∀ z ∈ zs, (contribution s origin dest z).1 ≤ temp)
    (p : Pallet) (n : Nat) :
    estimateOf s p origin dest zs n = ((temp - (classEntry s p.cls).threshold).toNat * n + 59) / 60 := by
  obtain ⟨z, hz, htemp⟩ := hmem
  obtain ⟨⟨y, hy, hyt⟩, hle, -⟩ := routeCharge_spec s origin dest (List.ne_nil_of_mem hz)
  have heq : (routeCharge s origin dest zs).1 = temp := Int.le_antisymm (hyt ▸ hmax y hy) (htemp ▸ hle z hz)
  rw [estimateOf, moveEstimate, heq]
  rfl

theorem routeFits_iff (s : State) (origin : Place) (dest : Dest) (zs : List ZoneId) : (!routeFits s origin dest zs) = true ↔
    zs.head? ≠ some (placeZone s origin) ∨ zs.getLast? ≠ some (destZone s dest) ∨
      zs.any (fun z => (zoneEntry s z).kind == .unused) := by
  have hused : (zs.any fun z => (zoneEntry s z).kind == .unused) = !zs.all (zoneUsed s) := by
    rw [List.not_all_eq_any_not]
    exact congrArg zs.any (funext fun z => by simp [zoneUsed, bne])
  rw [hused, routeFits]
  simp only [Bool.not_and, Bool.or_eq_true, Bool.not_eq_true', beq_eq_false_iff_ne, or_assoc]

theorem poolHasRoom_iff (s : State) : poolHasRoom s = true ↔ poolRecords s + loadReservations s < 192 := decide_eq_true_iff

theorem passesBudget_iff (s : State) (p : Pallet) (dest : Dest) (n : Nat) : passesBudget s p dest n = true ↔
    p.account + n ≤ (classEntry s p.cls).budget ∨ accrualTemp s (destZone s dest) ≤ (classEntry s p.cls).threshold ∨
      (dest.isDoor = true ∧ p.overridden = true) := by
  simp [passesBudget, coolingMove, or_assoc]

/-- The first failing check decides (R72). -/
theorem moveRefusal_eq (s : State) (p : Pallet) (origin : Place) (dest : Dest) (zs : List ZoneId) (n : Nat) :
    moveRefusal s p origin dest zs n =
      ((if Config.maxTransits ≤ transitCount s then some .full
        else if !routeFits s origin dest zs then some .param
        else originRefusal s p.tag origin).or (destRefusal s p dest)).or
      (if passesBudget s p dest (estimateOf s p origin dest zs n) then none else some .budget) := by
  unfold moveRefusal
  split
  · rfl
  · split
    · rfl
    · cases originRefusal s p.tag origin <;> cases destRefusal s p dest <;> rfl

/-! ## The grant (R73) -/

/-- The record of a pallet whose move is granted. -/
def Pallet.granted (p : Pallet) (origin : Place) (dest : Dest) (zs : List ZoneId) (n : Nat) : Pallet :=
  { p with location := .transit ⟨origin, dest, zs, n, 0, false⟩ }

/-- The state a granted move leaves to the grant judgment. -/
def moveStarted (p : Pallet) (origin : Place) (dest : Dest) (zs : List ZoneId) (n : Nat) (s : State) : State :=
  giveUpOrigin origin (setPallet (p.granted origin dest zs n) s)

/-- A door that is not SEALED is not made ready by the pallet that leaves it (R108). -/
theorem judgeReleaseReady_unsealed {s : State} {d : DoorId} (h : doorState s d ≠ .sealed) : judgeReleaseReady d s = s := by
  simp [judgeReleaseReady, h, postIf]

/-- Where the origin's check passes, giving the pallet up moves at most its lane. -/
theorem giveUpOrigin_eq {s : State} {tag : Nat} {origin : Place} (h : originRefusal s tag origin = none) :
    giveUpOrigin origin s = { s with lanes := (giveUpOrigin origin s).lanes } := by
  cases origin with
  | lane l => rfl
  | bulk z => rfl
  | trailer d =>
    have hopen : doorState s d = .opened := Decidable.byContradiction fun hn => by simp [originRefusal, hn] at h
    rw [giveUpOrigin, judgeReleaseReady_unsealed (by simp [hopen])]

theorem giveUpOrigin_lanes (origin : Place) (s : State) (l : LaneId) :
    (giveUpOrigin origin s).lanes.get l = if origin = .lane l then (s.lanes.get l).drop 1 else s.lanes.get l := by
  cases origin with
  | lane k =>
    by_cases h : k = l
    · subst h; simp [giveUpOrigin]
    · simp [giveUpOrigin, h, bank_get_put_other _ _ _ _ h]
  | trailer d => simp [giveUpOrigin, judgeReleaseReady]
  | bulk z => simp [giveUpOrigin]

/-! ## The request -/

theorem exec_move (tag form index : Nat) (route : List Nat) (asked : Nat) (s : State) :
    exec (.move .warehouse tag form index route asked) s = serve .warehouse .move (moveBody tag form index route asked) s := rfl

theorem moveBody_malformed {tag form index : Nat} {route : List Nat}
    (h : tagOk tag = false ∨ dest? form index = none ∨ route? route = none) (asked : Nat) (s : State) :
    moveBody tag form index route asked s = refuse .param s := by
  unfold moveBody
  split
  · next hd hr =>
    have htag : tagOk tag = false := by simpa [hd, hr] using h
    simp [htag]
  · rfl

section
variable {tag form index asked : Nat} {route : List Nat} {dest : Dest} {zs : List ZoneId} {origin : Place} {p : Pallet} {s : State}

theorem moveBody_unknown (ht : tagOk tag = true) (hd : dest? form index = some dest) (hr : route? route = some zs)
    (hp : findPallet s tag = none) : moveBody tag form index route asked s = refuse .notFound s := by
  simp [moveBody, hd, hr, ht, hp]

theorem moveBody_found (ht : tagOk tag = true) (hd : dest? form index = some dest) (hr : route? route = some zs)
    (hp : findPallet s tag = some p) :
    ((∀ w, p.location ≠ .at w) → moveBody tag form index route asked s = refuse .state s) ∧
    ∀ w, p.location = .at w → moveBody tag form index route asked s = moveFrom p w dest zs asked s := by
  rcases hl : p.location with w | m | _
  · exact ⟨fun h => absurd rfl (h w), fun v h => by simp [moveBody, hd, hr, ht, hp, hl, Location.at.inj h]⟩
  · exact ⟨fun _ => by simp [moveBody, hd, hr, ht, hp, hl], fun w h => by cases h⟩
  · exact ⟨fun _ => by simp [moveBody, hd, hr, ht, hp, hl], fun w h => by cases h⟩

theorem moveFrom_refused {r : Result} (h : moveRefusal s p origin dest zs (clampDuration asked) = some r) :
    moveFrom p origin dest zs asked s = refuse r s := by
  simp [moveFrom, h]

theorem moveFrom_granted (h : moveRefusal s p origin dest zs (clampDuration asked) = none) :
    moveFrom p origin dest zs asked s = answer (if clampDuration asked = asked then .ok else .clamped)
      (movePayload (estimateOf s p origin dest zs (clampDuration asked)) (clampDuration asked))
      (settle (moveStarted p origin dest zs (clampDuration asked) s)) := by
  simp [moveFrom, h, grantMove, moveStarted, Pallet.granted]

/-- The state a granted move leaves has the transit record, the pallet gone from its origin, and no other change. -/
theorem moveStarted_effect (hp : findPallet s tag = some p) {n : Nat} (hn : moveRefusal s p origin dest zs n = none) :
    let u := moveStarted p origin dest zs n (takeFrame .warehouse s)
    findPallet u tag = some { p with location := .transit ⟨origin, dest, zs, n, 0, false⟩ } ∧ PalletsKeptBut tag s u ∧
    (∀ l, u.lanes.get l = if origin = .lane l then (s.lanes.get l).drop 1 else s.lanes.get l) ∧
    u = { takeFrame .warehouse s with pallets := u.pallets, lanes := u.lanes } := by
  intro u
  obtain ⟨-, rfl⟩ := findPallet_some hp
  have horigin : originRefusal s p.tag origin = none := by
    rw [moveRefusal_eq, Option.or_eq_none_iff, Option.or_eq_none_iff] at hn
    obtain ⟨⟨hn, -⟩, -⟩ := hn
    split at hn
    · cases hn
    · split at hn
      · cases hn
      · exact hn
  have hput : PutsRecord (p.granted origin dest zs n) (takeFrame .warehouse s)
      (setPallet (p.granted origin dest zs n) (takeFrame .warehouse s)) :=
    putsRecord_setPallet ((findPallet_takeFrame _ _ _).trans hp)
  have heq : u = { setPallet (p.granted origin dest zs n) (takeFrame .warehouse s) with lanes := u.lanes } := by
    refine giveUpOrigin_eq (tag := p.tag) ?_
    rw [← horigin]
    exact (onlyReports_takeFrame .warehouse s).read (fun t => originRefusal (setPallet (p.granted origin dest zs n) t) p.tag origin)
      fun _ _ _ => rfl
  have hfind : ∀ k, findPallet u k = findPallet (setPallet (p.granted origin dest zs n) (takeFrame .warehouse s)) k := fun k => by
    rw [heq]; rfl
  refine ⟨(hfind _).trans hput.found, fun k hk => ?others, fun l => ?lanes, by rw [heq]; rfl⟩
  case others => rw [hfind, hput.others k hk, findPallet_takeFrame]
  case lanes =>
    rw [← takeFrame_lanes .warehouse s]
    exact giveUpOrigin_lanes origin _ l

/-- MOVE of a pallet that stands at a place: the checks' refusal, or the grant. -/
theorem move_outcome (hs : Ready .warehouse s) (ht : tagOk tag = true) (hd : dest? form index = some dest) (hr : route? route = some zs)
    (hp : findPallet s tag = some p) (hl : p.location = .at origin) {refusal : Option Result}
    (href : refusal = moveRefusal s p origin dest zs (clampDuration asked)) :
    (∀ r, refusal = some r → Refuses .warehouse .move r (.move .warehouse tag form index route asked) s) ∧
    (refusal = none → ∃ u, exec (.move .warehouse tag form index route asked) s = .next (respond .warehouse 0x41
        ⟨if clampDuration asked = asked then .ok else .clamped,
          u16 (estimateOf s p origin dest zs (clampDuration asked)) ++ u16 (clampDuration asked)⟩ (settle u)) ∧
      findPallet u tag = some { p with location := .transit ⟨origin, dest, zs, clampDuration asked, 0, false⟩ } ∧
      PalletsKeptBut tag s u ∧
      (∀ l, u.lanes.get l = if origin = .lane l then (s.lanes.get l).drop 1 else s.lanes.get l) ∧
      u = { takeFrame .warehouse s with pallets := u.pallets, lanes := u.lanes }) := by
  subst href
  have hchecks := (onlyReports_takeFrame .warehouse s).read (moveRefusal · p origin dest zs (clampDuration asked)) fun _ _ _ => rfl
  have hestimate := (onlyReports_takeFrame .warehouse s).read (estimateOf · p origin dest zs (clampDuration asked)) fun _ _ _ => rfl
  have hbody := (moveBody_found (asked := asked) ht hd hr ((findPallet_takeFrame .warehouse s tag).trans hp)).2 origin hl
  refine ⟨fun r h => refuses_of_body (exec_move ..) ⟨hs, rfl⟩ (hbody.trans (moveFrom_refused (hchecks.trans h))), fun h => ?granted⟩
  rw [moveFrom_granted (hchecks.trans h), hestimate] at hbody
  have hexec := exec_of_body (exec_move ..) ⟨hs, rfl⟩ hbody
  exact ⟨_, hexec, moveStarted_effect hp h⟩

end

/-- Settles O49: the request's form, its pallet and its location are refused by the body's own order; past them the outcome is that of
`moveRefusal`, whose checks are the statement's one by one. -/
theorem moveIsCheckedInOrderThenGranted : Obligations.MoveIsCheckedInOrderThenGranted := by
  unfold Obligations.MoveIsCheckedInOrderThenGranted
  intro tag form index route asked s hs
  dsimp only
  refine ⟨fun h => refuses_of_body (exec_move ..) ⟨hs, rfl⟩ (moveBody_malformed h _ _), fun dest zs ht hd hr =>
    ⟨fun hp => refuses_of_body (exec_move ..) ⟨hs, rfl⟩ ?unknown, fun p hp =>
      ⟨fun hl => refuses_of_body (exec_move ..) ⟨hs, rfl⟩ ?elsewhere, fun origin temp hl hmem hmax => ?placed⟩⟩⟩
  case unknown => exact moveBody_unknown ht hd hr ((findPallet_takeFrame ..).trans hp)
  case elsewhere => exact (moveBody_found ht hd hr ((findPallet_takeFrame ..).trans hp)).1 hl
  case placed =>
    obtain ⟨-, htag⟩ := findPallet_some hp
    rw [← clampDuration_eq, ← estimateOf_hottest hmem hmax]
    refine move_outcome hs ht hd hr hp hl ?_
    rw [moveRefusal_eq]
    refine congr (congrArg Option.or (congr (congrArg Option.or ?order) ?destination)) ?account
    case order =>
      refine ite_congr rfl (fun _ => rfl) fun _ => ite_congr (propext (routeFits_iff ..).symm) (fun _ => rfl) fun _ => ?_
      rw [htag]
      cases origin <;> rfl
    case destination =>
      cases dest with
      | lane l => simp [destRefusal, laneHasRoom]
      | bulk z => rfl
      | door d =>
        refine ite_congr (propext ?_) (fun _ => rfl) fun _ => ite_congr (by simp) (fun _ => rfl) fun _ =>
          ite_congr (propext ?_) (fun _ => rfl) fun _ => rfl
        · rw [Bool.not_eq_true', ← Bool.not_eq_true, opensOutbound_iff, Classical.not_and_iff_not_or_not]
        · rw [Bool.not_eq_true', ← Bool.not_eq_true, poolHasRoom_iff, Nat.not_lt]
    case account => exact ite_congr (propext (passesBudget_iff ..).symm) (fun _ => rfl) fun _ => rfl

end Sys2Proof.Machine
end

section
/-! PROOFS. MOVE DONE and the departure record it may close (04_moves_and_staging_lanes.md R77 to R80,
08_manifests_and_departure_records.md R157 to R159). -/

namespace Sys2Proof.Machine

/-! ## The request -/

theorem exec_moveDone (tag : Nat) (s : State) :
    exec (.moveDone .warehouse tag) s = serve .warehouse .moveDone (moveDoneBody tag) s := rfl

theorem moveDoneBody_malformed {tag : Nat} (h : tagOk tag = false) (s : State) : moveDoneBody tag s = refuse .param s := by
  simp [moveDoneBody, h]

theorem moveDoneBody_unknown {tag : Nat} (ht : tagOk tag = true) {s : State} (hp : findPallet s tag = none) :
    moveDoneBody tag s = refuse .notFound s := by
  simp [moveDoneBody, ht, hp]

theorem moveDoneBody_found {tag : Nat} (ht : tagOk tag = true) {s : State} {p : Pallet} (hp : findPallet s tag = some p) :
    ((∀ m, p.location ≠ .transit m) → moveDoneBody tag s = refuse .state s) ∧
    ∀ m, p.location = .transit m → moveDoneBody tag s =
      (settle (completeAt m.dest p (endOverdue tag m s)).1, (completeAt m.dest p (endOverdue tag m s)).2) := by
  rcases hl : p.location with w | m | _
  · exact ⟨fun _ => by simp [moveDoneBody, ht, hp, hl], fun m h => by cases h⟩
  · exact ⟨fun h => absurd rfl (h m), fun n h => by simp [moveDoneBody, ht, hp, hl, Location.transit.inj h]⟩
  · exact ⟨fun _ => by simp [moveDoneBody, ht, hp, hl], fun m h => by cases h⟩

/-- A completed transit is answered with what its destination's effects answer, and then judged. -/
theorem exec_moveDone_transit {tag : Nat} {s : State} (hs : Ready .warehouse s) (ht : tagOk tag = true) {p : Pallet}
    (hp : findPallet s tag = some p) {m : Transit} (hm : p.location = .transit m) {pl : List Byte} {u : State}
    (hu : completeAt m.dest p (transitOver tag m s) = answer .ok pl u) :
    exec (.moveDone .warehouse tag) s = .next (respond .warehouse 0x42 ⟨.ok, pl⟩ (settle u)) := by
  have hbody : moveDoneBody tag (takeFrame .warehouse s) = answer .ok pl (settle u) := by
    rw [(moveDoneBody_found ht ((findPallet_takeFrame .warehouse s tag).trans hp)).2 m hm]
    rw [show completeAt m.dest p (endOverdue tag m (takeFrame .warehouse s)) = answer .ok pl u from hu]
    rfl
  exact exec_of_body (r := .moveDone) (exec_moveDone tag s) ⟨hs, rfl⟩ hbody

/-! ## The destination's effects (R78, R79, R80) -/

/-- The record with its move counted (R77). -/
abbrev Pallet.counted (p : Pallet) : Pallet := { p with moves := nextMove p.moves }

theorem completeAt_lane (l : LaneId) (p : Pallet) (s : State) :
    completeAt (.lane l) p s = answer .ok (placeBytes (.lane l)) (placePallet (.lane l) p.counted s) := rfl

theorem completeAt_bulk_used {z : ZoneId} {s : State} (h : zoneUsed s z = true) (p : Pallet) :
    completeAt (.bulk z) p s = answer .ok (placeBytes (.bulk z)) (placePallet (.bulk z) p.counted s) := if_pos h

theorem completeAt_bulk_unused {z : ZoneId} {s : State} (h : ¬ zoneUsed s z = true) (p : Pallet) :
    completeAt (.bulk z) p s = answer .ok (locationBytes .unresolved) (unresolvePallet p.counted s) := if_neg h

theorem completeAt_door_gone {d : DoorId} {s : State} (h : ¬ takesOutbound s d = true) (p : Pallet) :
    completeAt (.door d) p s = answer .ok (locationBytes .unresolved) (unresolvePallet p.counted s) := if_neg h

theorem completeAt_door {d : DoorId} {s : State} (h : takesOutbound s d = true) {a : Assignment}
    (ha : (s.doors.get d).assignment = some a) (p : Pallet) :
    completeAt (.door d) p s = answer .ok (u8 6 ++ u8 (d.val + 1)) (closeInto d a.trailer p s) := by
  simp [completeAt, completeAtDoor, h, ha]

/-! ## The pallet stays in the table -/

theorem placePallet_lanes (w : Place) (q : Pallet) (s : State) (l : LaneId) :
    (placePallet w q s).lanes.get l = if w = .lane l then s.lanes.get l ++ [q.tag] else s.lanes.get l := by
  cases w with
  | lane k =>
    by_cases h : k = l
    · subst h; simp [placePallet, joinLane, setPallet]
    · simp [placePallet, joinLane, setPallet, h, bank_get_put_other _ _ _ _ h]
  | trailer d => simp [placePallet, setPallet]
  | bulk z => simp [placePallet, setPallet]

theorem told_placePallet (ks : List NoticeKind) (w : Place) (q : Pallet) (s : State) : Told ks s (placePallet w q s) := by
  cases w <;> exact Told.of_ports rfl

theorem transitEnded_placed {s : State} {p q : Pallet} (hp : findPallet s q.tag = some p) (m : Transit) (w : Place) :
    TransitEnded (q.placed w s.clock) m [.alarmChange] s (placePallet w q (transitOver q.tag m s)) := by
  have hput := putsRecord_placePallet (s := transitOver q.tag m s) (q := q) ((transitOver_findPallet _ _ _ _).trans hp) w
  rw [transitOver_clock] at hput
  exact transitEnded_of_puts hput (told_placePallet _ _ _ _) (by simp)

/-! ## The pallet closes into a manifest (R80, R157 to R159) -/

theorem onlyReports_endPalletAlarms (p : Pallet) (s : State) : OnlyReports s (endPalletAlarms p s) :=
  (onlyReports_tellOver _ _ _ _).trans (onlyReports_tellDwell _ _ _ _)

theorem told_endPalletAlarms (p : Pallet) (s : State) : Told [.alarmChange] s (endPalletAlarms p s) :=
  (told_tellOver _ _ _ _).trans (told_tellDwell _ _ _ _)

theorem alarmed_tellOver (tag : Nat) (old new : Status) (s : State) : Alarmed [.palletOver] s (tellOver tag old new s) := by
  unfold tellOver
  split
  · exact alarmed_raise _ _ _
  · split
    · exact alarmed_clear _ _ _
    · exact Alarmed.rfl

theorem alarmed_endPalletAlarms (p : Pallet) (s : State) : Alarmed [.palletOver, .dwellExceeded] s (endPalletAlarms p s) :=
  ((alarmed_tellOver _ _ _ _).wider (by simp)).trans ((alarmed_tellDwell _ _ _ _).wider (by simp))

/-- PALLET OVER ends with its record (R35). -/
theorem endPalletAlarms_over {p : Pallet} (h : p.status = .over) (s : State) :
    Cleared .palletOver (.tag p.tag) (endPalletAlarms p s) := by
  have hc : Cleared .palletOver (.tag p.tag) (tellOver p.tag p.status .normal s) := by
    rw [h]
    exact cleared_clear _ _ _
  exact hc.alarmed (alarmed_tellDwell _ _ _ _) (by simp)

/-- DWELL EXCEEDED ends with its record (R36). -/
theorem endPalletAlarms_dwell {p : Pallet} {s : State} (h : 60 * (classEntry s p.cls).maxDwell < p.dwell) :
    Cleared .dwellExceeded (.tag p.tag) (endPalletAlarms p s) := by
  rw [endPalletAlarms, (dwellExceeds_iff _ _).2 h]
  exact cleared_clear _ _ _

/-- The door's manifest takes the pallet's departure record at its tail (R158). -/
def departureListed (d : DoorId) (trailer : Nat) (p : Pallet) (s : State) : State :=
  postIf (s.manifests.get d).isEmpty .manifestReady
    (s.putManifest d (s.manifests.get d ++ [departureOf p d trailer s.clock]))

/-- The state a closed departure record leaves to the grant judgment. -/
def departed (d : DoorId) (trailer : Nat) (p : Pallet) (s : State) : State :=
  erasePallet p.tag (endPalletAlarms p (departureListed d trailer p s))

/-- A pallet in transit holds no place that its removal would free (R54). -/
theorem closeInto_transit {p : Pallet} {m : Transit} (h : p.location = .transit m) (d : DoorId) (trailer : Nat) (s : State) :
    closeInto d trailer p s = settle (departed d trailer p s) := by
  simp [closeInto, removePallet, leavePlace, h, departed, departureListed]

/-- Only the Pallet Table, the manifests and the reports. -/
def OnlyDepartures (s t : State) : Prop :=
  t = { s with pallets := t.pallets, manifests := t.manifests, alarms := t.alarms, ports := t.ports }

theorem OnlyDepartures.trans {s t u : State} (a : OnlyDepartures s t) (b : OnlyDepartures t u) : OnlyDepartures s u := by
  unfold OnlyDepartures at *
  rw [b, a]

theorem OnlyReports.departures {s t : State} (h : OnlyReports s t) : OnlyDepartures s t := by
  unfold OnlyReports at h
  unfold OnlyDepartures
  rw [h]

theorem onlyReports_postIf (b : Bool) (k : NoticeKind) (s : State) : OnlyReports s (postIf b k s) := by
  unfold OnlyReports
  apply state_eq <;> simp

@[simp] theorem departureListed_manifests (d : DoorId) (trailer : Nat) (p : Pallet) (s : State) :
    (departureListed d trailer p s).manifests = s.manifests.put d (s.manifests.get d ++ [departureOf p d trailer s.clock]) :=
  postIf_manifests _ _ _

@[simp] theorem departureListed_pallets (d : DoorId) (trailer : Nat) (p : Pallet) (s : State) :
    (departureListed d trailer p s).pallets = s.pallets := postIf_pallets _ _ _

@[simp] theorem departureListed_alarms (d : DoorId) (trailer : Nat) (p : Pallet) (s : State) :
    (departureListed d trailer p s).alarms = s.alarms := postIf_alarms _ _ _

@[simp] theorem departureListed_classEntry (d : DoorId) (trailer : Nat) (p : Pallet) (s : State) (c : ClassId) :
    classEntry (departureListed d trailer p s) c = classEntry s c := by
  rw [departureListed, classEntry, postIf_profile]; rfl

theorem onlyDepartures_departureListed (d : DoorId) (trailer : Nat) (p : Pallet) (s : State) :
    OnlyDepartures s (departureListed d trailer p s) :=
  OnlyDepartures.trans (t := s.putManifest d _) (Eq.refl _) (onlyReports_postIf _ _ _).departures

theorem told_departureListed (d : DoorId) (trailer : Nat) (p : Pallet) (s : State) :
    Told [.manifestReady] s (departureListed d trailer p s) :=
  (Told.of_ports (t := s.putManifest d _) rfl).trans (told_postIf _ _ _)

/-- The first record of a manifest makes it ready (R158). -/
theorem posted_departureListed {d : DoorId} {s : State} (h : s.manifests.get d = []) (trailer : Nat) (p : Pallet) :
    Posted .manifestReady (departureListed d trailer p s) := by
  rw [departureListed, h]
  exact posted_post _ _

/-- What the closing of a departure record leaves. -/
theorem departed_effect (d : DoorId) (trailer : Nat) (p : Pallet) (s : State) :
    let u := departed d trailer p s
    u.pallets = s.pallets.filter (fun q => q.tag != p.tag) ∧
    u.manifests.get d = s.manifests.get d ++ [departureOf p d trailer s.clock] ∧
    (∀ e, e ≠ d → u.manifests.get e = s.manifests.get e) ∧
    (s.manifests.get d = [] → Posted .manifestReady u) ∧
    (p.status = .over → Cleared .palletOver (.tag p.tag) u) ∧
    (60 * (classEntry s p.cls).maxDwell < p.dwell → Cleared .dwellExceeded (.tag p.tag) u) ∧
    Told [.alarmChange, .manifestReady] s u ∧ Alarmed [.palletOver, .dwellExceeded] s u ∧ OnlyDepartures s u := by
  intro u
  have hended := onlyReports_endPalletAlarms p (departureListed d trailer p s)
  have htold : Told [.alarmChange] (departureListed d trailer p s) u :=
    (told_endPalletAlarms p _).trans (Told.of_ports rfl)
  have hmanifests : u.manifests = s.manifests.put d (s.manifests.get d ++ [departureOf p d trailer s.clock]) :=
    (hended.read State.manifests fun _ _ _ => rfl).trans (departureListed_manifests d trailer p s)
  refine ⟨?pallets, ?listed, fun e he => ?others, fun hnil => (posted_departureListed hnil trailer p).told htold,
    fun h => endPalletAlarms_over h _, fun h => endPalletAlarms_dwell (by rwa [departureListed_classEntry]), ?told,
    (Alarmed.of_alarms (departureListed_alarms d trailer p s)).trans (alarmed_endPalletAlarms p _),
    (onlyDepartures_departureListed d trailer p s).trans (hended.departures.trans (Eq.refl _))⟩
  case pallets =>
    exact congrArg (List.filter _) ((hended.read State.pallets fun _ _ _ => rfl).trans (departureListed_pallets d trailer p s))
  case listed => rw [hmanifests]; exact bank_get_put_same _ _ _
  case others => rw [hmanifests]; exact bank_get_put_other _ _ _ _ he.symm
  case told => exact ((told_departureListed d trailer p s).wider (by simp)).trans (htold.wider (by simp))

/-- A completed move whose destination does not take the pallet leaves it UNRESOLVED. -/
theorem moveDone_lost {tag : Nat} {s : State} (hs : Ready .warehouse s) (ht : tagOk tag = true) {p : Pallet}
    (hp : findPallet s tag = some p) {m : Transit} (hm : p.location = .transit m)
    (hu : completeAt m.dest p (transitOver tag m s) =
      answer .ok (locationBytes .unresolved) (unresolvePallet p.counted (transitOver tag m s))) :
    ∃ u, exec (.moveDone .warehouse tag) s = .next (respond .warehouse 0x42 ⟨.ok, [5, 0]⟩ (settle u)) ∧
      (m.overdue = true → Cleared .moveOverdue (.tag tag) u) ∧ PalletsKeptBut tag s u ∧
      OnlyNotices [.alarmChange, .unresolved] (takeFrame .warehouse s) u ∧
      findPallet u tag = some (p.counted.unresolvedAt s.clock) ∧ Posted .unresolved u ∧
      (m.overdue = false → u.alarms = (takeFrame .warehouse s).alarms) ∧
      u = { s with pallets := u.pallets, alarms := u.alarms, ports := u.ports } := by
  obtain ⟨-, rfl⟩ := findPallet_some hp
  have h := transitEnded_unresolved (q := p.counted) hp m
  exact ⟨_, exec_moveDone_transit hs ht hp hm hu, h.cleared, h.others, h.notices, h.found, posted_unresolvePallet _ _, h.quiet,
    h.frame.of_lanes (transitOver_lanes _ _ _)⟩

/-- A completed load move closes the pallet into its door's manifest. -/
theorem moveDone_departs {tag : Nat} {s : State} (hs : Ready .warehouse s) (ht : tagOk tag = true) {p : Pallet}
    (hp : findPallet s tag = some p) {m : Transit} (hm : p.location = .transit m) {d : DoorId} (hd : m.dest = .door d)
    (htakes : takesOutbound s d = true) {a : Assignment} (ha : (s.doors.get d).assignment = some a) :
    ∃ u, exec (.moveDone .warehouse tag) s = .next (respond .warehouse 0x42 ⟨.ok, u8 6 ++ u8 (d.val + 1)⟩ (settle u)) ∧
      u.pallets = s.pallets.filter (fun q => q.tag != tag) ∧
      u.manifests.get d = s.manifests.get d ++ [departureOf p d a.trailer s.clock] ∧
      (∀ e, e ≠ d → u.manifests.get e = s.manifests.get e) ∧
      (s.manifests.get d = [] → Posted .manifestReady u) ∧
      (m.overdue = true → Cleared .moveOverdue (.tag tag) u) ∧
      (p.status = .over → Cleared .palletOver (.tag tag) u) ∧
      (60 * (classEntry s p.cls).maxDwell < p.dwell → Cleared .dwellExceeded (.tag tag) u) ∧
      OnlyNotices [.alarmChange, .manifestReady] (takeFrame .warehouse s) u ∧ OnlyDepartures s u := by
  obtain ⟨-, rfl⟩ := findPallet_some hp
  have hdone : completeAt m.dest p (transitOver p.tag m s) =
      answer .ok (u8 6 ++ u8 (d.val + 1)) (settle (departed d a.trailer p (transitOver p.tag m s))) := by
    rw [hd, completeAt_door (by rwa [transitOver_takesOutbound]) (by rwa [transitOver_doors]), closeInto_transit hm]
  have hexec := exec_moveDone_transit hs ht hp hm hdone
  rw [settle_settle] at hexec
  obtain ⟨herased, hlisted, hothers, hready, hover, hdwell, htold, halarmed, hframe⟩ :=
    departed_effect d a.trailer p (transitOver p.tag m s)
  rw [transitOver_pallets] at herased
  rw [transitOver_manifests, transitOver_clock] at hlisted
  rw [transitOver_manifests] at hothers hready
  rw [transitOver_classEntry] at hdwell
  exact ⟨_, hexec, herased, hlisted, hothers, hready,
    fun ho => (cleared_endOverdue ho p.tag (takeFrame .warehouse s)).alarmed halarmed (by simp), hover, hdwell,
    (((told_endOverdue p.tag m _).wider (by simp)).trans htold).only,
    (onlyReports_transitOver p.tag m s).departures.trans hframe⟩

/-- Settles O50: where the destination takes the pallet it is put there or closed into the manifest, and otherwise left UNRESOLVED; each
ends the transit, with the same effect on the overdue condition. -/
theorem moveDonePutsThePallet : Obligations.MoveDonePutsThePallet := by
  unfold Obligations.MoveDonePutsThePallet
  intro tag s hs
  dsimp only
  refine ⟨fun h => refuses_of_body (exec_moveDone tag s) ⟨hs, rfl⟩ (moveDoneBody_malformed h _),
    fun ht hp => refuses_of_body (exec_moveDone tag s) ⟨hs, rfl⟩ (moveDoneBody_unknown ht ((findPallet_takeFrame ..).trans hp)),
    fun p ht hp => ⟨fun hl => refuses_of_body (exec_moveDone tag s) ⟨hs, rfl⟩
      ((moveDoneBody_found ht ((findPallet_takeFrame ..).trans hp)).1 hl), fun m hm => ?transit⟩⟩
  obtain ⟨-, rfl⟩ := findPallet_some hp
  have hexec := fun {pl u} => exec_moveDone_transit (pl := pl) (u := u) hs ht hp hm
  have hplaced := transitEnded_placed (q := p.counted) hp m
  have hlost := moveDone_lost hs ht hp hm
  cases hd : m.dest with
  | lane l =>
    rw [hd] at hexec
    have h := hplaced (.lane l)
    refine ⟨_, hexec (completeAt_lane l p _), h.cleared, h.others, h.notices, ⟨h.found, h.quiet, h.frame⟩, ?_, fun k hk => ?_⟩
    · simp [placePallet_lanes]
    · simp [placePallet_lanes, Ne.symm hk]
  | bulk z =>
    rw [hd] at hexec hlost
    have hused := (transitOver_zoneUsed p.tag m s z).symm ▸ zoneUsed_iff s z
    refine ⟨fun hz => ?_, fun hz => hlost (completeAt_bulk_unused (fun h => hused.1 h hz) p)⟩
    have h := hplaced (.bulk z)
    exact ⟨_, hexec (completeAt_bulk_used (hused.2 hz) p), h.cleared, h.others, h.notices, ⟨h.found, h.quiet, h.frame⟩,
      transitOver_lanes _ _ _⟩
  | door d =>
    rw [hd] at hlost
    refine ⟨fun hgone => hlost (completeAt_door_gone ?gone p), fun a hdoor ha hdir =>
      moveDone_departs hs ht hp hm hd ((takesOutbound_iff s d).2 ⟨hdoor, ?outbound⟩) ha⟩
    case gone =>
      rw [transitOver_takesOutbound, takesOutbound_iff, Classical.not_and_iff_not_or_not]
      exact hgone.imp_left (by simp)
    case outbound => rw [ha, ← hdir]; rfl

end Sys2Proof.Machine
end

section
/-! PROOFS. The overdue limit of a transit and MOVE CANCEL (04_moves_and_staging_lanes.md R76, R82 to R84). -/

namespace Sys2Proof.Machine

/-! ## The overdue limit (R76) -/

theorem exec_moveOverdueExpiry {s : State} (h : s.power = .running) (tag : Nat) :
    exec (.moveOverdueExpiry tag) s = .next (moveOverdue tag s) := whenRunning_on h

theorem moveOverdue_unknown {s : State} {tag : Nat} (hp : findPallet s tag = none) : moveOverdue tag s = s := by
  simp [moveOverdue, hp]

/-- The record of a transit that has reached its overdue limit. -/
def Pallet.atOverdueLimit (p : Pallet) (m : Transit) : Pallet :=
  { p with location := .transit { m with overdue := true, timer := max m.timer (overdueLimit m) } }

/-- The limit acts on a pallet in a transit that is not overdue yet, and on no other. -/
theorem moveOverdue_found {s : State} {tag : Nat} {p : Pallet} (hp : findPallet s tag = some p) :
    ((∀ m, p.location ≠ .transit m) → moveOverdue tag s = s) ∧
    ∀ m, p.location = .transit m →
      (m.overdue = true → moveOverdue tag s = s) ∧
      (m.overdue = false →
        moveOverdue tag s = post .moveOverdue (raise .moveOverdue (.tag tag) (setPallet (p.atOverdueLimit m) s))) := by
  rcases hl : p.location with w | n | _
  · exact ⟨fun _ => by simp [moveOverdue, hp, hl], fun m h => by cases h⟩
  · refine ⟨fun h => absurd rfl (h n), fun m h => ?_⟩
    obtain rfl := Location.transit.inj h
    exact ⟨fun ho => by simp [moveOverdue, hp, hl, ho], fun ho => by simp [moveOverdue, hp, hl, ho, Pallet.atOverdueLimit]⟩
  · exact ⟨fun _ => by simp [moveOverdue, hp, hl], fun m h => by cases h⟩

/-- At the limit the flag is set, MOVE OVERDUE is raised and posted, and nothing else changes. -/
theorem overdueRaised_effect {s : State} {p : Pallet} (hp : findPallet s p.tag = some p) (m : Transit) :
    let t := post .moveOverdue (raise .moveOverdue (.tag p.tag) (setPallet (p.atOverdueLimit m) s))
    findPallet t p.tag = some (p.atOverdueLimit m) ∧ PalletsKeptBut p.tag s t ∧
    t.alarms = (raise .moveOverdue (.tag p.tag) s).alarms ∧ Posted .moveOverdue t ∧ PortsKept s t ∧
    OnlyNotices [.moveOverdue, .alarmChange] s t ∧ t = { s with pallets := t.pallets, alarms := t.alarms, ports := t.ports } := by
  intro t
  have hput : PutsRecord (p.atOverdueLimit m) s (setPallet (p.atOverdueLimit m) s) := putsRecord_setPallet hp
  have hpallets : t.pallets = (setPallet (p.atOverdueLimit m) s).pallets := (post_pallets _ _).trans (raise_pallets _ _ _)
  have hfind : ∀ k, findPallet t k = findPallet (setPallet (p.atOverdueLimit m) s) k := fun k => by unfold findPallet; rw [hpallets]
  have htold : Told [.moveOverdue, .alarmChange] s t :=
    (Told.of_ports (t := setPallet (p.atOverdueLimit m) s) rfl).trans
      (((told_raise _ _ _).wider (by simp)).trans ((told_post _ _).wider (by simp)))
  refine ⟨(hfind _).trans hput.found, fun k hk => (hfind k).trans (hput.others k hk), ?alarms, posted_post _ _, htold.kept, htold.only,
    ?frame⟩
  case alarms => exact raise_alarms_congr (s := s) (t := setPallet (p.atOverdueLimit m) s) rfl rfl _ _
  case frame => apply state_eq <;> simp [t, setPallet]

/-! ## MOVE CANCEL -/

theorem exec_moveCancel (tag : Nat) (s : State) :
    exec (.moveCancel .warehouse tag) s = serve .warehouse .moveCancel (moveCancelBody tag) s := rfl

theorem moveCancelBody_malformed {tag : Nat} (h : tagOk tag = false) (s : State) : moveCancelBody tag s = refuse .param s := by
  simp [moveCancelBody, h]

theorem moveCancelBody_unknown {tag : Nat} (ht : tagOk tag = true) {s : State} (hp : findPallet s tag = none) :
    moveCancelBody tag s = refuse .notFound s := by
  simp [moveCancelBody, ht, hp]

theorem moveCancelBody_found {tag : Nat} (ht : tagOk tag = true) {s : State} {p : Pallet} (hp : findPallet s tag = some p) :
    ((∀ m, p.location ≠ .transit m) → moveCancelBody tag s = refuse .state s) ∧
    ∀ m, p.location = .transit m → moveCancelBody tag s =
      (settle (cancelTransit p m (endOverdue tag m s)).1, (cancelTransit p m (endOverdue tag m s)).2) := by
  rcases hl : p.location with w | m | _
  · exact ⟨fun _ => by simp [moveCancelBody, ht, hp, hl], fun m h => by cases h⟩
  · exact ⟨fun h => absurd rfl (h m), fun n h => by simp [moveCancelBody, ht, hp, hl, Location.transit.inj h]⟩
  · exact ⟨fun _ => by simp [moveCancelBody, ht, hp, hl], fun m h => by cases h⟩

/-- The state a cancelled transit leaves to the grant judgment: the pallet is back at an origin that takes it (R83), and otherwise left
UNRESOLVED (R84). -/
def moveCancelled (p : Pallet) (m : Transit) (s : State) : State :=
  if originTakes s m.origin then returnTo m.origin p (transitOver p.tag m s) else unresolvePallet p (transitOver p.tag m s)

/-- Where a cancelled transit's pallet is answered to stand. -/
def cancelledTo (m : Transit) (s : State) : Location := if originTakes s m.origin then .at m.origin else .unresolved

theorem exec_moveCancel_transit {s : State} (hs : Ready .warehouse s) {p : Pallet} (ht : tagOk p.tag = true)
    (hp : findPallet s p.tag = some p) {m : Transit} (hm : p.location = .transit m) :
    exec (.moveCancel .warehouse p.tag) s =
      .next (respond .warehouse 0x43 ⟨.ok, locationBytes (cancelledTo m s)⟩ (settle (moveCancelled p m s))) := by
  have hcancel : cancelTransit p m (endOverdue p.tag m (takeFrame .warehouse s)) =
      answer .ok (locationBytes (cancelledTo m s)) (moveCancelled p m s) := by
    have htakes : originTakes (endOverdue p.tag m (takeFrame .warehouse s)) m.origin = originTakes s m.origin :=
      transitOver_originTakes p.tag m s m.origin
    unfold cancelTransit cancelledTo moveCancelled
    rw [htakes]
    split <;> rfl
  have hbody : moveCancelBody p.tag (takeFrame .warehouse s) =
      answer .ok (locationBytes (cancelledTo m s)) (settle (moveCancelled p m s)) := by
    rw [(moveCancelBody_found ht ((findPallet_takeFrame .warehouse s p.tag).trans hp)).2 m hm, hcancel]
    rfl
  exact exec_of_body (r := .moveCancel) (exec_moveCancel p.tag s) ⟨hs, rfl⟩ hbody

theorem told_returnTo (ks : List NoticeKind) (w : Place) (q : Pallet) (s : State) : Told ks s (returnTo w q s) := by
  cases w <;> exact Told.of_ports rfl

/-- The pallet stands at its origin again. -/
theorem transitEnded_returned {s : State} {p : Pallet} (hp : findPallet s p.tag = some p) (m : Transit) (w : Place) :
    TransitEnded { p with location := .at w } m [.alarmChange] s (returnTo w p (transitOver p.tag m s)) :=
  transitEnded_of_puts (putsRecord_returnTo ((transitOver_findPallet _ _ _ _).trans hp) w) (told_returnTo _ _ _ _) (by simp)

/-- A cancelled move whose origin does not take the pallet back leaves it UNRESOLVED (R84). -/
theorem moveCancel_lost {s : State} (hs : Ready .warehouse s) {p : Pallet} (ht : tagOk p.tag = true)
    (hp : findPallet s p.tag = some p) {m : Transit} (hm : p.location = .transit m) (ho : originTakes s m.origin = false) :
    ∃ u, exec (.moveCancel .warehouse p.tag) s = .next (respond .warehouse 0x43 ⟨.ok, [5, 0]⟩ (settle u)) ∧
      (m.overdue = true → Cleared .moveOverdue (.tag p.tag) u) ∧ (m.overdue = false → u.alarms = (takeFrame .warehouse s).alarms) ∧
      PalletsKeptBut p.tag s u ∧ OnlyNotices [.alarmChange, .unresolved] (takeFrame .warehouse s) u ∧ OnlyPlaces s u ∧
      u.lanes = s.lanes ∧ Posted .unresolved u ∧ findPallet u p.tag = some (p.unresolvedAt s.clock) := by
  have hexec := exec_moveCancel_transit hs ht hp hm
  rw [show moveCancelled p m s = _ from if_neg (by simp [ho]), show cancelledTo m s = _ from if_neg (by simp [ho])] at hexec
  have h := transitEnded_unresolved (q := p) hp m
  exact ⟨_, hexec, h.cleared, h.quiet, h.others, h.notices, h.frame, transitOver_lanes _ _ _, posted_unresolvePallet _ _, h.found⟩

/-- A cancelled move whose origin takes the pallet back leaves it there, with no history entry (R82, R83). -/
theorem moveCancel_back {s : State} (hs : Ready .warehouse s) {p : Pallet} (ht : tagOk p.tag = true)
    (hp : findPallet s p.tag = some p) {m : Transit} (hm : p.location = .transit m) (ho : originTakes s m.origin = true) :
    ∃ u, exec (.moveCancel .warehouse p.tag) s = .next (respond .warehouse 0x43 ⟨.ok, placeBytes m.origin⟩ (settle u)) ∧
      (m.overdue = true → Cleared .moveOverdue (.tag p.tag) u) ∧ (m.overdue = false → u.alarms = (takeFrame .warehouse s).alarms) ∧
      PalletsKeptBut p.tag s u ∧ OnlyNotices [.alarmChange] (takeFrame .warehouse s) u ∧ OnlyPlaces s u ∧
      findPallet u p.tag = some { p with location := .at m.origin } ∧
      u.lanes = (returnTo m.origin p s).lanes := by
  have hexec := exec_moveCancel_transit hs ht hp hm
  rw [show moveCancelled p m s = _ from if_pos ho, show cancelledTo m s = _ from if_pos ho] at hexec
  have h := transitEnded_returned hp m m.origin
  refine ⟨_, hexec, h.cleared, h.quiet, h.others, h.notices, h.frame, h.found, ?_⟩
  exact (onlyReports_transitOver p.tag m s).read (fun t => (returnTo m.origin p t).lanes) fun t a ps => by cases m.origin <;> rfl

/-- Settles O51: the limit acts once on a transit, and a cancelled transit's pallet goes back to an origin that takes it or is left
UNRESOLVED. -/
theorem transitOverdueAndCancel : Obligations.TransitOverdueAndCancel := by
  unfold Obligations.TransitOverdueAndCancel
  intro tag s hrun
  dsimp only
  rw [exec_moveOverdueExpiry hrun]
  refine ⟨fun hs h => refuses_of_body (exec_moveCancel tag s) ⟨hs, rfl⟩ (moveCancelBody_malformed h _),
    fun hp => ⟨by rw [moveOverdue_unknown hp], fun hs ht => refuses_of_body (exec_moveCancel tag s) ⟨hs, rfl⟩
      (moveCancelBody_unknown ht ((findPallet_takeFrame ..).trans hp))⟩, fun p ht hp => ?found⟩
  obtain ⟨hidle, htransit⟩ := moveOverdue_found hp
  refine ⟨fun hl => ⟨fun hs => refuses_of_body (exec_moveCancel tag s) ⟨hs, rfl⟩
    ((moveCancelBody_found ht ((findPallet_takeFrame ..).trans hp)).1 hl), by rw [hidle hl]⟩, fun m hm => ?transit⟩
  obtain ⟨hagain, hfirst⟩ := htransit m hm
  obtain ⟨-, rfl⟩ := findPallet_some hp
  refine ⟨fun ho => by rw [hagain ho], fun ho => ⟨_, by rw [hfirst ho], overdueRaised_effect hp m⟩, fun hs => ?cancel⟩
  have hback := moveCancel_back hs ht hp hm
  have hlost := moveCancel_lost hs ht hp hm
  rcases m with ⟨origin, dest, zs, n, timer, overdue⟩
  cases origin with
  | lane l =>
    obtain ⟨u, hexec, hcleared, hquiet, hothers, hnotices, hframe, hfound, hlanes⟩ := hback rfl
    refine ⟨u, hexec, hcleared, hquiet, hothers, hnotices, hframe, hfound, ?_, fun k hk => ?_⟩
    · rw [hlanes]; exact bank_get_put_same _ _ _
    · rw [hlanes]; exact bank_get_put_other _ _ _ _ hk.symm
  | bulk z => exact ⟨fun hz => hback ((zoneUsed_iff s z).2 hz), fun hz => hlost (by simpa [originTakes, zoneUsed] using hz)⟩
  | trailer d =>
    have htakes := takesInbound_iff s d
    exact ⟨fun hv => hback (htakes.2 hv), fun hv => hlost (by rw [← Bool.not_eq_true]; exact fun h => hv (htakes.1 h))⟩

end Sys2Proof.Machine
end
